-- ==== Sys2Proof/Word.lean ====
section
/-! DEFINITION. The plainest types of the NG16 model: bytes, identities, moments and the numberings of 00_scope.md. -/

namespace Sys2Proof

/-- One byte of the serial link (R173). -/
abbrev Byte := BitVec 8

/-- A module's identity: the 12 bytes its tag gives (R25). -/
abbrev Identity := Vector Byte 12

/-- A moment on the part's millisecond timers, in whole milliseconds. -/
abbrev Moment := Nat

/-- A value of the seconds counter (00_scope.md, Time). -/
abbrev Seconds := Nat

/-- Bays 0-15. -/
abbrev BayNo := Fin 16

/-- Shelf positions 0-239: row × 24 + column. -/
abbrev PositionNo := Fin 240

/-- Pool record indices 0-239. -/
abbrev RecordNo := Fin 240

/-- String entries 0-5. -/
abbrev StringNo := Fin 6

/-- Plan and profile slots 0-3. -/
abbrev SlotNo := Fin 4

/-- Lamp patterns 0-7. -/
abbrev PatternNo := Fin 8

/-- Lamps 0-255: 0-239 at the positions, 240-255 at the bays. -/
abbrev LampNo := Fin 256

/-- Rack rows 0-9. -/
abbrev RowNo := Fin 10

/-- Rack columns 0-23. -/
abbrev ColumnNo := Fin 24

/-- `k` as a number below `n`, where it is one: the shape of every range check on a number. -/
def toFin (n k : Nat) : Option (Fin n) :=
  if h : k < n then some ⟨k, h⟩ else none

end Sys2Proof
end

