-- ==== Sys2Proof/Syntax.lean ====
section
/-! DEFINITION. The commands of the NG16: one constructor for each row of spec/opcode_table.json, in the table's order. -/

namespace Sys2Proof

/-- The two contacts of a bay (R2). -/
inductive Contact where
  | presence
  | clampClosed
  deriving DecidableEq, Repr

/-- The steps of the part (95_what_each_step_holds.md). A request row carries the tag and the body bytes of a frame whose
check has matched (R176); its message type is the row's. A line-equipment row carries what the equipment delivers with it. -/
inductive Instr where
  /-- POWER_ON (R183), with whether the reset input is asserted as power comes up. -/
  | powerOn (resetAsserted : Bool)
  /-- RESET_INPUT_ASSERTION (R182). -/
  | resetInputAssertion
  /-- RESET_INPUT_RELEASE (R182). -/
  | resetInputRelease
  /-- STATUS, type 0x01 (R179). -/
  | status (tag : Byte) (body : List Byte)
  /-- RESET of kind FULL, type 0x02 (R181). -/
  | resetFull (tag : Byte) (body : List Byte)
  /-- RESET of kind LINE, type 0x02 (R181). -/
  | resetLine (tag : Byte) (body : List Byte)
  /-- SETTING_WRITE, type 0x03 (R180). -/
  | settingWrite (tag : Byte) (body : List Byte)
  /-- SETTING_READ, type 0x04 (R180). -/
  | settingRead (tag : Byte) (body : List Byte)
  /-- EVENTS_TAKE, type 0x05 (R165). -/
  | eventsTake (tag : Byte) (body : List Byte)
  /-- EVENT_CLASSES, type 0x06 (R167). -/
  | eventClasses (tag : Byte) (body : List Byte)
  /-- WATCH_ENTER, type 0x07 (R118). -/
  | watchEnter (tag : Byte) (body : List Byte)
  /-- PROFILE_LOAD, type 0x10 (R64). -/
  | profileLoad (tag : Byte) (body : List Byte)
  /-- PROFILE_READ, type 0x11 (R65). -/
  | profileRead (tag : Byte) (body : List Byte)
  /-- PLAN_LOAD, type 0x12 (R21). -/
  | planLoad (tag : Byte) (body : List Byte)
  /-- PLAN_READ, type 0x13 (R22). -/
  | planRead (tag : Byte) (body : List Byte)
  /-- GRADE_LIMITS with its set present, type 0x14 (R76). -/
  | gradeLimits (tag : Byte) (body : List Byte)
  /-- GRADE_LIMITS with its set absent, type 0x14 (R76). -/
  | gradeLimitsRead (tag : Byte) (body : List Byte)
  /-- BAY_ENGAGE, type 0x20 (R5). -/
  | bayEngage (tag : Byte) (body : List Byte)
  /-- BAY_RUN, type 0x21 (R7). -/
  | bayRun (tag : Byte) (body : List Byte)
  /-- BAY_ABORT, type 0x22 (R8). -/
  | bayAbort (tag : Byte) (body : List Byte)
  /-- BAY_RELEASE, type 0x23 (R9). -/
  | bayRelease (tag : Byte) (body : List Byte)
  /-- BAY_QUERY, type 0x24 (R17). -/
  | bayQuery (tag : Byte) (body : List Byte)
  /-- POOL_READ, type 0x30 (R98). -/
  | poolRead (tag : Byte) (body : List Byte)
  /-- POOL_LIST, type 0x31 (R99). -/
  | poolList (tag : Byte) (body : List Byte)
  /-- POOL_IMPORT, type 0x32 (R102). -/
  | poolImport (tag : Byte) (body : List Byte)
  /-- POOL_DELETE, type 0x33 (R100). -/
  | poolDelete (tag : Byte) (body : List Byte)
  /-- POOL_PLACE, type 0x34 (R101). -/
  | poolPlace (tag : Byte) (body : List Byte)
  /-- POSITION_READ, type 0x35 (R84). -/
  | positionRead (tag : Byte) (body : List Byte)
  /-- STRING_BUILD, type 0x40 (R127). -/
  | stringBuild (tag : Byte) (body : List Byte)
  /-- STRING_READ, type 0x41 (R145). -/
  | stringRead (tag : Byte) (body : List Byte)
  /-- STRING_CANCEL, type 0x42 (R143). -/
  | stringCancel (tag : Byte) (body : List Byte)
  /-- STRING_CLOSE, type 0x43 (R144). -/
  | stringClose (tag : Byte) (body : List Byte)
  /-- LAMP_PATTERN with its fields present, type 0x50 (R153). -/
  | lampPattern (tag : Byte) (body : List Byte)
  /-- LAMP_PATTERN with its fields absent, type 0x50 (R153). -/
  | lampPatternRead (tag : Byte) (body : List Byte)
  /-- LAMP_ROLES with its map present, type 0x51 (R154). -/
  | lampRoles (tag : Byte) (body : List Byte)
  /-- LAMP_ROLES with its map absent, type 0x51 (R154). -/
  | lampRolesRead (tag : Byte) (body : List Byte)
  /-- LAMP_OVERRIDE with its pattern present, type 0x52 (R156). -/
  | lampOverride (tag : Byte) (body : List Byte)
  /-- LAMP_OVERRIDE with its pattern absent, type 0x52 (R156). -/
  | lampOverrideRead (tag : Byte) (body : List Byte)
  /-- LAMP_RELEASE, type 0x53 (R157). -/
  | lampRelease (tag : Byte) (body : List Byte)
  /-- A completed frame whose type is no message type (R178, step 2). -/
  | unknownType (type tag : Byte) (body : List Byte)
  /-- The gap timer expires before the frame is complete (R175). -/
  | frameRejectedGap
  /-- The second length byte gives a length above 1,024 (R176), with the two length bytes. -/
  | frameRejectedSize (lengthLow lengthHigh : Byte)
  /-- The last check byte arrives and the check differs (R176), with the frame's fields as received. -/
  | frameRejectedCheck (type tag : Byte) (body : List Byte) (check : BitVec 16)
  /-- The last byte of the head reply has been sent (R177). -/
  | replySent
  /-- A bay contact's raw level changes (R2), with the new level: closed or open. -/
  | bayContactChange (bay : BayNo) (contact : Contact) (closed : Bool)
  /-- A bay contact's debounce timer expires (R2). -/
  | debounceExpiry (bay : BayNo) (contact : Contact)
  /-- The engage-settle timer expires (R6). -/
  | engageSettleExpiry (bay : BayNo)
  /-- The release guard timer expires (R10). -/
  | releaseGuardExpiry (bay : BayNo)
  /-- The tag reader answers (R25), with an identity or a failure. -/
  | tagReaderAnswer (bay : BayNo) (answer : Option Identity)
  /-- The read timer expires (R26). -/
  | readTimerExpiry (bay : BayNo)
  /-- The rest timer expires (R27). -/
  | restTimerExpiry (bay : BayNo)
  /-- The cool-wait timer expires (R28). -/
  | coolWaitTimerExpiry (bay : BayNo)
  /-- The pulse monitor timer expires (R29). -/
  | monitorTimerExpiry (bay : BayNo)
  /-- The pulse duration expires (R30). -/
  | durationTimerExpiry (bay : BayNo)
  /-- The recovery timer expires (R33). -/
  | recoveryTimerExpiry (bay : BayNo)
  /-- The drain sample timer expires (R35). -/
  | sampleTimerExpiry (bay : BayNo)
  /-- The drain time-limit timer expires (R37). -/
  | timeLimitExpiry (bay : BayNo)
  /-- The settle timer expires (R39). -/
  | settleTimerExpiry (bay : BayNo)
  /-- The conversion timer expires (R47), with the values measured: the voltage in mV and, for a bay, the current in cA
  and the module and heatsink temperatures in °C (R44). For the rack scanner only the voltage is measured. -/
  | conversionComplete (voltage current : Nat) (moduleTemp heatsinkTemp : Int)
  /-- The oldest start time ages out of the start window (R50). -/
  | agingTimerExpiry
  /-- A row's dwell timer expires (R106), with the raw readings of the row's contacts: bit c is column c, 1 for present. -/
  | dwellTimerExpiry (contacts : BitVec 24)
  /-- The watch timer expires (R119). -/
  | watchTimerExpiry
  /-- The attention pulse timer expires (R169). -/
  | pulseTimerExpiry
  /-- A byte of 0xC3 arrives (R175). -/
  | syncByte
  deriving DecidableEq, Repr

end Sys2Proof
end

