-- ==== Sys2Proof/Decode.lean ====
section
/-! DEFINITION. The command that a word spells by the opcode table's bits. -/

namespace Sys2Proof

/-- None: no row of spec/opcode_table.json gives bits. Requests reach the part as frames (R173), whose decoding stands in
Machine/Framing.lean and Machine/Operands.lean. -/
def decodeTableWord (_nbits _w : Nat) : Option Instr := none

end Sys2Proof
end

