-- ==== Sys2Proof/Config.lean ====
section
/-! DEFINITION. The fixed times and depths the manual gives (no setting changes them), and the one value it leaves open. -/

namespace Sys2Proof.Config

/-- R25: the tag read time, 500 ms. -/
def readTime : Nat := 500

/-- R28: the period of the cool-wait timer, 1,000 ms. -/
def coolWaitPeriod : Nat := 1000

/-- R29: the period of the pulse monitor timer, 1,000 ms. -/
def monitorPeriod : Nat := 1000

/-- R34: the period of the drain sample timer, 250 ms. -/
def samplePeriod : Nat := 250

/-- R44: the length of a conversion, 2 ms. -/
def conversionTime : Nat := 2

/-- R175: the gap allowed between two bytes of a frame, 3 ms. -/
def gapTime : Nat := 3

/-- R169: the length of an attention pulse, 1 ms. -/
def pulseTime : Nat := 1

/-- The start limit: 4 starts per window (03, "The load bus"; R50). -/
def startLimit : Nat := 4

/-- R162: the event queue's places. -/
def eventPlaces : Nat := 64

/-- R177: the transmit list's places. -/
def transmitPlaces : Nat := 16

/-- R35: the overruns a drain may have before SPARSE is set. -/
def overrunsAllowed : Nat := 40

/-- R40: the readings a SETTLE may take. -/
def settleReadings : Nat := 6

/-- R173: the greatest body length. -/
def maxBody : Nat := 1024

/-- R173: the sync byte. -/
def syncByte : Byte := 0xC3

/-- R99: the records one POOL_LIST reply holds at most. -/
def listPlaces : Nat := 12

/-- R64: the milliamp-hour scale of the drain accumulator: 1,440 samples of 250 ms at 1 cA make one mAh (R36, R72). -/
def samplesPerMilliampHour : Nat := 1440

/-- FREE VALUE (assumption 4). What the 32-bit seconds counter reads once the exact count of seconds (the argument)
no longer fits 32 bits: the manual gives the width and not what follows its top. -/
opaque secondsPastTop : Nat → BitVec 32

end Sys2Proof.Config
end

