-- ==== Sys2Proof/Machine/State.lean ====
section
/-! DEFINITION. The state of the NG16 as plain data: every block's items (00_scope.md, Block diagram), the queue of waiting
commands, and the state right after power-on. -/

namespace Sys2Proof.Machine

/-! ## Names from the lists of R173 -/

/-- Grades, A best (00_scope.md, Grades). -/
inductive Grade where
  | a
  | b
  | c
  | r
  deriving DecidableEq, Repr

/-- Bay fault causes (R13). -/
inductive FaultCause where
  | presenceLost
  | clampOpen
  | identMismatch
  | identUnread
  | heat
  | moduleHot
  | loadShortfall
  | pulseNoDrop
  deriving DecidableEq, Repr

/-- Program outcomes (02, Outcomes at a glance). -/
inductive TestOutcome where
  | graded
  | rejectDeep
  | rejectOver
  | tempOut
  | aborted
  | faulted
  | lineStopped
  deriving DecidableEq, Repr

/-- The lamp meaning left by the last verdict (01, What a bay holds). -/
inductive ResultRole where
  | none
  | bayPass
  | bayReject
  deriving DecidableEq, Repr

/-- The flags of results and records (R173; 05, Pool records). -/
structure Flags where
  capAbsent : Bool := false
  sparse : Bool := false
  unsettled : Bool := false
  timeLimited : Bool := false
  downgraded : Bool := false
  reseated : Bool := false
  imported : Bool := false
  deriving DecidableEq, Repr

/-- Where a record came from: a bay's verdict or POOL_IMPORT. -/
inductive Origin where
  | bay (bay : BayNo)
  | imported
  deriving DecidableEq, Repr

/-- String matching modes (R127). -/
inductive StringMode where
  | capacity
  | resistance
  deriving DecidableEq, Repr

/-- Lamp curves (R151). -/
inductive Curve where
  | linear
  | square
  deriving DecidableEq, Repr

/-- Lamp roles, in the order of the role table (R154); a lamp without a role carries no value of this type. -/
inductive LampRole where
  | putaway
  | reserved
  | nextPick
  | shelfReject
  | unknownOccupant
  | bayTesting
  | bayPass
  | bayReject
  | bayFault
  | bayHold
  deriving DecidableEq, Repr

/-- Event classes (R161). -/
inductive EventClass where
  | bay
  | load
  | pool
  | string
  | system
  deriving DecidableEq, Repr

/-- RESTART causes (R171). -/
inductive RestartCause where
  | powerOn
  | full
  deriving DecidableEq, Repr

/-- WOKEN causes (R121). -/
inductive WokenCause where
  | link
  | bay
  | rack
  deriving DecidableEq, Repr

/-- RESET kinds (R181). -/
inductive ResetKind where
  | full
  | line
  deriving DecidableEq, Repr

/-- The reset-line function, setting 17 (R182). -/
inductive ResetLineFunction where
  | full
  | line
  deriving DecidableEq, Repr

/-- The attention mode, setting 16 (R170). -/
inductive AttentionMode where
  | level
  | pulse
  deriving DecidableEq, Repr

/-- Reply statuses (R173). -/
inductive Status where
  | ok
  | accepted
  | unknownType
  | length
  | range
  | state
  | absent
  | inUse
  | full
  deriving DecidableEq, Repr

/-- FRAME_REJECTED reasons (R176). -/
inductive RejectReason where
  | gap
  | size
  | check
  deriving DecidableEq, Repr

/-! ## Stored descriptions -/

/-- A plan (02, Plans). Times in ms but for the time limit and settle window, which are in s. -/
structure Plan where
  restTime : Nat
  pulseCurrent : Nat
  pulseDuration : Nat
  recoveryTime : Nat
  drain : Bool
  drainCurrent : Nat
  drainDepth : Nat
  floorVoltage : Nat
  timeLimit : Nat
  settleWindow : Nat
  stabilityBand : Nat
  windowLow : Int
  windowHigh : Int
  deriving DecidableEq, Repr, Inhabited

/-- A profile (04, Profiles): breakpoints b0 to b20 in mV per cell and the temperature coefficient k. -/
structure Profile where
  breakpoints : Vector Nat 21
  coefficient : Nat
  deriving DecidableEq, Repr, Inhabited

/-- The grade limits in force (R75), in permille. -/
structure GradeLimits where
  sohA : Nat
  sohB : Nat
  sohC : Nat
  rrA : Nat
  rrB : Nat
  rrC : Nat
  deriving DecidableEq, Repr

/-- The seventeen settings of R180 by their items, 1 to 17. -/
structure Settings where
  debounce : Nat
  engageSettle : Nat
  releaseGuard : Nat
  busBudget : Nat
  startWindow : Nat
  derate : Nat
  hysteresis : Nat
  shutdown : Nat
  rowDwell : Nat
  sampleInterval : Nat
  freshness : Nat
  watchInterval : Nat
  minObservation : Nat
  downgrade : Nat
  reject : Nat
  attention : AttentionMode
  resetLine : ResetLineFunction
  deriving DecidableEq, Repr

/-! ## Bays -/

/-- The request fields of BAY_RUN that a program keeps, the bay among them (R7, R23). -/
structure RunRequest where
  bay : BayNo
  plan : SlotNo
  profile : SlotNo
  cells : Nat
  nameplate : Nat
  nominal : Nat
  expected : Option Identity
  autoRelease : Bool
  deriving DecidableEq, Repr

/-- The rest reading (R23, R27) with the state of charge s0 the gate hands back. -/
structure RestReading where
  voltage : Nat := 0
  moduleTemp : Int := 0
  heatsink : Int := 0
  time : Seconds := 0
  soc : Nat := 0
  deriving DecidableEq, Repr

/-- The pulse reading (R23, R31) with the resistance figures of R70 and R71. -/
structure PulseReading where
  voltage : Nat := 0
  current : Nat := 0
  moduleTemp : Int := 0
  resistance : Nat := 0
  ratio : Nat := 0
  deriving DecidableEq, Repr

/-- A settle reading: module voltage and the seconds counter at its completion (R39). -/
structure SettleReading where
  voltage : Nat
  time : Seconds
  deriving DecidableEq, Repr

/-- The phase and sub-state of a program (R23) with the timers that run in it, each as the moment it expires. VERDICT is
reached and left within one event (R41), so no program stands in it. -/
inductive Phase where
  /-- IDENT: the read timer, and whether the tag reader has answered (R25). -/
  | ident (readTimer : Moment) (answered : Bool)
  /-- REST0: the rest timer, absent once it has expired and the rest conversion is asked for (R27). -/
  | rest0 (restTimer : Option Moment)
  /-- PULSE, COOL_WAIT: the cool-wait timer (R28). -/
  | coolWait (timer : Moment)
  /-- PULSE, LOAD_WAIT (R28). -/
  | pulseWait
  /-- PULSE, LOAD_ON: the duration and monitor timers, and whether a monitor record has been tested for shortfall (R29). -/
  | pulseOn (duration monitor : Moment) (tested : Bool)
  /-- PULSE, END_WAIT: as above, and whether the conversion asked for is the end conversion (R30). -/
  | endWait (tested : Bool) (endAsked : Bool)
  /-- RECOVER: the recovery timer (R33). -/
  | recover (timer : Moment)
  /-- DRAIN, LOAD_WAIT (R34). -/
  | drainWait
  /-- DRAIN, LOAD_ON: the sample and time-limit timers (R34). -/
  | drainOn (sample limit : Moment)
  /-- SETTLE: the settle timer, absent while a settle conversion is asked for (R39). -/
  | settle (timer : Option Moment)
  deriving DecidableEq, Repr

/-- The program context (R23). `awaiting` says that a conversion asked for in the current phase has not been delivered:
the discard test of R24 reads it. -/
structure Program where
  request : RunRequest
  phase : Phase
  identity : Option Identity := none
  rest : RestReading := {}
  pulse : PulseReading := {}
  charge : Nat := 0
  overruns : Nat := 0
  overrunsSince : Nat := 0
  settleCount : Nat := 0
  settleLatest : Option SettleReading := none
  settleBefore : Option SettleReading := none
  flags : Flags := {}
  abortPending : Bool := false
  awaiting : Bool := false
  deriving DecidableEq, Repr

/-- Capacity and state of health: present together or absent together (R73, R81). -/
structure Capacity where
  milliampHours : Nat
  health : Nat
  deriving DecidableEq, Repr

/-- The graded result a verdict builds (R41). -/
structure GradedResult where
  grade : Grade
  identity : Option Identity
  profile : SlotNo
  cells : Nat
  nameplate : Nat
  capacity : Option Capacity
  resistance : Nat
  ratio : Nat
  flags : Flags
  restVoltage : Nat
  restTime : Seconds
  gradedTime : Seconds
  origin : BayNo
  deriving DecidableEq, Repr

/-- The outcome of the most recent program (01, What a bay holds). -/
structure LastResult where
  outcome : TestOutcome
  grade : Option Grade
  flags : Flags
  identity : Option Identity
  record : Option RecordNo
  position : Option PositionNo
  endTime : Seconds
  deriving DecidableEq, Repr

/-- The eight bay states (R1), each with what the manual keeps only in it: the engage-settle timer in ENGAGING, the
program context in TESTING, the request fields and pending result in HOLD, the release guard timer in RELEASING and the
fault cause in FAULTED. -/
inductive BayState where
  | empty
  | seated
  | engaging (settleTimer : Moment)
  | engaged
  | testing (program : Program)
  | hold (request : RunRequest) (pending : GradedResult)
  | releasing (guardTimer : Moment)
  | faulted (cause : FaultCause)
  deriving DecidableEq, Repr

/-- One contact of a bay: its raw level (an input), its debounced level and its debounce timer (R2). -/
structure ContactLevel where
  raw : Bool := false
  debounced : Bool := false
  timer : Option Moment := none
  deriving DecidableEq, Repr

/-- What a bay controller keeps (01, What a bay holds). -/
structure Bay where
  state : BayState := .empty
  presence : ContactLevel := {}
  clampClosed : ContactLevel := {}
  lastResult : Option LastResult := none
  resultRole : ResultRole := .none
  deriving DecidableEq, Repr

/-! ## Converter and load bus -/

/-- The seventeen requesters of the converter (03, The shared converter). -/
inductive Requester where
  | bay (bay : BayNo)
  | rack
  deriving DecidableEq, Repr

/-- The converter: free, or busy with one requester until its conversion timer expires (R44). -/
inductive Converter where
  | free
  | busy (requester : Requester) (timer : Moment)
  deriving DecidableEq, Repr

/-- What the conversion arbiter holds (03). The rack scanner's mark carries the position asked for. `askedAt` is the model's
own: the moment at which a request found the converter free, while the conversion so granted runs. The requests of that one
moment arrive together, and are served in pointer order (R46; assumption 29). -/
structure Arbiter where
  converter : Converter
  askedAt : Option Moment
  bayMarks : Vector Bool 16
  rackMark : Option PositionNo
  pointer : Requester
  deriving DecidableEq, Repr

/-- The kinds of grant entries (R52). A restore keeps the heatsink temperature of the reading that asked for it (R55). -/
inductive GrantKind where
  | pulseStart
  | drainStart
  | restore (heatsink : Int)
  deriving DecidableEq, Repr

/-- An entry of the grant queue (R52). -/
structure GrantEntry where
  bay : BayNo
  kind : GrantKind
  current : Nat
  deriving DecidableEq, Repr

/-- What the load scheduler holds (03, The load bus). A bay's derated mark and its drain setpoint are one item: the
setpoint is present exactly while the mark is set. -/
structure Load where
  granted : Vector Nat 16
  derated : Vector (Option Nat) 16
  starts : List Moment
  queue : List GrantEntry
  deriving DecidableEq, Repr

/-! ## The pool and the rack -/

/-- Record states (R82); a reservation stands exactly in RESERVED. -/
inductive RecordState where
  | unshelved
  | available
  | reserved (string : StringNo) (slot : Nat)
  | absent
  | rejected
  deriving DecidableEq, Repr

/-- A baseline: the voltage and time of the first shelf sample (R113). -/
structure Baseline where
  voltage : Nat
  time : Seconds
  deriving DecidableEq, Repr

/-- A pool record (05, Pool records). -/
structure Record where
  state : RecordState
  position : PositionNo
  identity : Option Identity
  profile : SlotNo
  cells : Nat
  nameplate : Nat
  grade : Grade
  capacity : Option Capacity
  resistance : Nat
  ratio : Nat
  flags : Flags
  origin : Origin
  gradedTime : Seconds
  restVoltage : Nat
  restTime : Seconds
  sampled : Bool
  baseline : Option Baseline
  drift : Option Nat
  stale : Bool
  deriving DecidableEq, Repr

/-- Position states (R83) with the bound record. -/
inductive PositionState where
  | free
  | assigned (record : RecordNo)
  | held (record : RecordNo)
  | vacated (record : RecordNo)
  | unknown
  deriving DecidableEq, Repr

/-- A position entry (R83). -/
structure Position where
  state : PositionState := .free
  present : Bool := false
  pendingChange : Bool := false
  deriving DecidableEq, Repr

/-- Scan modes (06). -/
inductive ScanMode where
  | active
  | watch
  deriving DecidableEq, Repr

/-- Visit stages (06). -/
inductive VisitStage where
  | dwell
  | tail
  | betweenPasses
  deriving DecidableEq, Repr

/-- What the rack scanner holds (06). `watchPeriod` is the watch interval in force at entry to WATCH (R119). -/
structure Scanner where
  mode : ScanMode
  row : RowNo
  stage : VisitStage
  dwellTimer : Option Moment
  lastColumn : Option ColumnNo
  passStart : Moment
  watchTimer : Option Moment
  watchPeriod : Nat
  deriving DecidableEq, Repr

/-! ## Strings -/

/-- The request fields of a string entry (R124). -/
structure StringRequest where
  profile : SlotNo
  cells : Nat
  length : Nat
  mode : StringMode
  capacityTolerance : Nat
  resistanceTolerance : Nat
  voltageTolerance : Nat
  minGrade : Grade
  deriving DecidableEq, Repr

/-- The reservation-time values of a slot (R125). -/
structure SlotValues where
  capacity : Option Nat
  resistance : Nat
  voltage : Nat
  identity : Option Identity
  deriving DecidableEq, Repr

/-- A slot of a slot list (R125). -/
inductive Slot where
  | reserved (record : RecordNo) (values : SlotValues)
  | picked (values : SlotValues) (order : Nat) (time : Seconds)
  | vacant
  deriving DecidableEq, Repr

/-- String states outside FREE (07). -/
inductive StringState where
  | waiting
  | picking
  | blocked
  | complete
  deriving DecidableEq, Repr

/-- A string entry in use (R124); a FREE entry is absent from the table. -/
structure StringEntry where
  state : StringState
  request : StringRequest
  created : Seconds
  slots : List Slot
  deriving DecidableEq, Repr

/-! ## Lamps -/

/-- A lamp pattern (08, Patterns). -/
structure Pattern where
  onTime : Nat
  offTime : Nat
  onIntensity : Nat
  offIntensity : Nat
  fadeIn : Nat
  fadeOut : Nat
  curve : Curve
  deriving DecidableEq, Repr

/-- What the lamp driver holds (08), but for the roles, which follow from their owners' state (R155). -/
structure Lamps where
  patterns : Vector Pattern 8
  epochs : Vector Moment 8
  roleMap : Vector PatternNo 10
  overrides : Vector (Option PatternNo) 256
  dark : Bool
  deriving DecidableEq, Repr

/-! ## Events -/

/-- The 27 kinds of event, in the order of R161's table, each with its subject and details. -/
inductive Happening where
  | baySeated (bay : BayNo)
  | bayEmpty (bay : BayNo)
  | bayEngaged (bay : BayNo)
  | testDone (bay : BayNo) (outcome : TestOutcome) (grade : Option Grade) (record : Option RecordNo)
      (position : Option PositionNo)
  | bayFault (bay : BayNo) (cause : FaultCause)
  | bayHold (bay : BayNo) (grade : Grade)
  | resultDiscarded (bay : BayNo) (grade : Grade)
  | derateOn (bay : BayNo) (setpoint derated : Nat) (heatsink : Int)
  | derateOff (bay : BayNo) (current : Nat) (heatsink : Int)
  | recordShelved (record : RecordNo) (position : PositionNo)
  | unknownOccupant (position : PositionNo)
  | occupantGone (position : PositionNo)
  | strayRemoval (record : RecordNo) (position : PositionNo)
  | reseated (record : RecordNo) (position : PositionNo)
  | recordStale (record : RecordNo)
  | recordFresh (record : RecordNo)
  | downgraded (record : RecordNo) (old new : Grade) (drift : Nat)
  | shelfReject (record : RecordNo) (position : PositionNo) (before : Grade) (drift : Nat)
  | rejectRemoved (position : PositionNo) (record : RecordNo) (origin : Origin)
  | stringReserved (string : StringNo) (length : Nat) (records : List RecordNo)
  | slotPicked (string : StringNo) (slot order : Nat) (position : PositionNo)
  | slotReplaced (string : StringNo) (slot : Nat) (record : RecordNo)
  | stringBlocked (string : StringNo) (vacant : Nat)
  | stringComplete (string : StringNo) (length : Nat)
  | restart (cause : RestartCause)
  | lineStop
  | woken (cause : WokenCause)
  deriving DecidableEq, Repr

/-- An event record (R161): its time, and its kind with subject and details; the class is fixed by the kind. -/
structure Event where
  time : Seconds
  what : Happening
  deriving DecidableEq, Repr

/-- The class enables (R167). -/
structure ClassEnables where
  bay : Bool := true
  load : Bool := true
  pool : Bool := true
  string : Bool := true
  system : Bool := true
  deriving DecidableEq, Repr

/-- What the event queue block holds (09); the attention mode is setting 16. -/
structure Events where
  queue : List Event
  enables : ClassEnables
  overflow : Bool
  pulseTimer : Option Moment
  deriving DecidableEq, Repr

/-! ## The link -/

/-- The eight bay states as STATUS names them (R179). -/
inductive BayStateName where
  | empty
  | seated
  | engaging
  | engaged
  | testing
  | hold
  | releasing
  | faulted
  deriving DecidableEq, Repr

/-- Phases as BAY_QUERY names them (R17). -/
inductive PhaseName where
  | ident
  | rest0
  | pulse
  | recover
  | drain
  | settle
  | verdict
  deriving DecidableEq, Repr

/-- Sub-states of PULSE and DRAIN (R23). -/
inductive SubState where
  | coolWait
  | loadWait
  | loadOn
  | endWait
  deriving DecidableEq, Repr

/-- String states as STATUS names them (R179). -/
inductive StringStateName where
  | free
  | waiting
  | picking
  | blocked
  | complete
  deriving DecidableEq, Repr

/-- Position states as replies name them (R84). -/
inductive PositionStateName where
  | free
  | assigned
  | held
  | vacated
  | unknown
  deriving DecidableEq, Repr

/-- The contents of a STATUS reply (R179). -/
structure StatusReport where
  family : Nat
  revision : Nat
  seconds : Seconds
  watch : Bool
  bays : List BayStateName
  records : Nat
  strings : List StringStateName
  depth : Nat
  overflow : Bool
  deriving DecidableEq, Repr

/-- Where a running program stands, as BAY_QUERY reports it (R17, R23). -/
structure ProgramReport where
  phase : PhaseName
  sub : Option SubState
  abortPending : Bool
  deriving DecidableEq, Repr

/-- The last result as BAY_QUERY reports it (R17): its identity is an item of the reply of its own. -/
structure ResultReport where
  outcome : TestOutcome
  grade : Option Grade
  flags : Flags
  record : Option RecordNo
  position : Option PositionNo
  endTime : Seconds
  deriving DecidableEq, Repr

/-- The contents of a BAY_QUERY reply (R17). -/
structure BayReport where
  state : BayStateName
  program : Option ProgramReport
  presence : Bool
  clampClosed : Bool
  cause : Option FaultCause
  request : Option RunRequest
  identity : Option Identity
  heldGrade : Option Grade
  lastResult : Option ResultReport
  resultRole : ResultRole
  deriving DecidableEq, Repr

/-- The contents of a POSITION_READ reply (R84). -/
structure PositionReport where
  state : PositionStateName
  record : Option RecordNo
  present : Bool
  pendingChange : Bool
  role : Option LampRole
  deriving DecidableEq, Repr

/-- One slot in a reply (R127, R145): its number, itself, and its record's position while RESERVED. -/
structure SlotReport where
  number : Nat
  slot : Slot
  position : Option PositionNo
  deriving DecidableEq, Repr

/-- The contents of a STRING_READ reply outside FREE (R145). -/
structure StringReport where
  state : StringState
  request : StringRequest
  created : Seconds
  slots : List SlotReport
  pickedCount : Nat
  vacantCount : Nat
  nextPick : Option Nat
  deriving DecidableEq, Repr

/-- The contents of the reply of LAMP_OVERRIDE's read form (R156). -/
structure LampReport where
  role : Option LampRole
  override : Option PatternNo
  shown : Option PatternNo
  level : Nat
  drive : Nat
  deriving DecidableEq, Repr

/-- The body of a reply. A reply whose status is neither OK nor ACCEPTED holds the status alone (R178). -/
inductive ReplyBody where
  /-- A status alone: OK, ACCEPTED or a refusal. -/
  | plain (status : Status)
  /-- FRAME_REJECTED with its reason (R176). -/
  | frameRejected (reason : RejectReason)
  /-- STATUS (R179). -/
  | partStatus (report : StatusReport)
  /-- SETTING_WRITE and SETTING_READ: the item and the value in force (R180). -/
  | setting (item value : Nat)
  /-- EVENTS_TAKE: the records, the overflow flag before the take and the depth left (R165). -/
  | eventsTaken (records : List Event) (overflow : Bool) (left : Nat)
  /-- EVENT_CLASSES: the enables after the request (R167). -/
  | classes (enables : ClassEnables)
  /-- PROFILE_READ (R65). -/
  | profile (profile : Profile)
  /-- PLAN_READ (R22). -/
  | plan (plan : Plan)
  /-- GRADE_LIMITS (R76). -/
  | limits (limits : GradeLimits)
  /-- BAY_QUERY (R17). -/
  | bay (report : BayReport)
  /-- POOL_READ (R98). -/
  | record (record : Record)
  /-- POOL_LIST: the records and the next index (R99). -/
  | recordList (records : List Record) (next : Option Nat)
  /-- POOL_IMPORT: the record index and the position's new state (R102). -/
  | imported (record : RecordNo) (state : PositionStateName)
  /-- POOL_DELETE: the position and its new state (R100). -/
  | deleted (position : PositionNo) (state : PositionStateName)
  /-- POSITION_READ (R84). -/
  | position (report : PositionReport)
  /-- STRING_BUILD: the string, its new state and, in PICKING, its slots (R127). -/
  | stringBuilt (string : StringNo) (state : StringState) (slots : List SlotReport)
  /-- STRING_READ (R145); absent for a FREE entry. -/
  | string (report : Option StringReport)
  /-- STRING_CANCEL: the state before and the PICKED slots (R143). -/
  | cancelled (before : StringState) (picked : List SlotReport)
  /-- STRING_CLOSE: the request, the created time and the final slots (R144). -/
  | closed (request : StringRequest) (created : Seconds) (slots : List SlotReport)
  /-- LAMP_PATTERN (R153). -/
  | pattern (pattern : Pattern)
  /-- LAMP_ROLES (R154). -/
  | roleMap (map : Vector PatternNo 10)
  /-- LAMP_OVERRIDE's setting form: the lamp and the override replaced (R156). -/
  | overridden (lamp : LampNo) (replaced : Option PatternNo)
  /-- LAMP_OVERRIDE's read form (R156). -/
  | lamp (report : LampReport)
  /-- LAMP_RELEASE: the number of overrides removed (R157). -/
  | released (count : Nat)
  deriving DecidableEq, Repr

/-- A reply frame: its type, its tag and its body (R178). -/
structure Reply where
  type : Byte
  tag : Byte
  body : ReplyBody
  deriving DecidableEq, Repr

/-- Receive stages (10). -/
inductive ReceiveStage where
  | hunt
  | length
  | header
  | body
  | check
  deriving DecidableEq, Repr

/-- The receiver: its stage, the frame under assembly from its sync byte on, and the gap timer (10). -/
structure Receiver where
  stage : ReceiveStage := .hunt
  frame : List Byte := []
  gapTimer : Option Moment := none
  deriving DecidableEq, Repr

/-- What the link interface holds (10); the reset-line function is setting 17. -/
structure Link where
  receiver : Receiver := {}
  transmit : List Reply := []
  resetHold : Option ResetKind := none
  deriving DecidableEq, Repr

/-! ## The part -/

/-- The part's time: milliseconds since power-on (the base of every millisecond timer), the seconds counter, and the
milliseconds gone of the current second. -/
structure Clock where
  ms : Moment
  seconds : Seconds
  intoSecond : Nat
  deriving DecidableEq, Repr

/-- The reset input (R182): released, or asserted and holding the part in full reset (with the cause its RESTART will
carry, R183), or asserted as a line stop. -/
inductive ResetInput where
  | released
  | heldFull (cause : RestartCause)
  | heldLine
  deriving DecidableEq, Repr

/-- The whole state of the part, and the commands that wait. -/
structure State where
  clock : Clock
  resetInput : ResetInput
  settings : Settings
  link : Link
  events : Events
  bays : Vector Bay 16
  arbiter : Arbiter
  load : Load
  profiles : Vector (Option Profile) 4
  plans : Vector (Option Plan) 4
  limits : GradeLimits
  records : Vector (Option Record) 240
  positions : Vector Position 240
  holdQueue : List BayNo
  scanner : Scanner
  strings : Vector (Option StringEntry) 6
  lamps : Lamps
  pending : List Instr
  deriving DecidableEq, Repr

/-- The reasons for which the part would stop with a fault: none. A bay's FAULTED is a bay state (R13), and every command has
a next state in every state. -/
inductive Fault where
  deriving DecidableEq, Repr

/-- The reasons for which a command would be refused. -/
inductive Refusal where
  /-- Raised by an arm of exec whose command has no meaning yet; no arm raises it. Safe. -/
  | notModelled (mnemonic : String)
  deriving DecidableEq, Repr

/-! ## Values after power-on -/

/-- The settings' defaults (R180). -/
def Settings.defaults : Settings where
  debounce := 30
  engageSettle := 500
  releaseGuard := 2000
  busBudget := 30000
  startWindow := 2000
  derate := 85
  hysteresis := 10
  shutdown := 105
  rowDwell := 20
  sampleInterval := 300
  freshness := 1200
  watchInterval := 1800
  minObservation := 43200
  downgrade := 2000
  reject := 10000
  attention := .level
  resetLine := .full

/-- The grade limits' defaults (R75). -/
def GradeLimits.defaults : GradeLimits where
  sohA := 900
  sohB := 800
  sohC := 700
  rrA := 1300
  rrB := 1600
  rrC := 2000

/-- The pattern table after power-on (R152). -/
def Pattern.defaults : Vector Pattern 8 :=
  #v[⟨0, 1000, 0, 0, 0, 0, .linear⟩,
     ⟨1000, 0, 255, 0, 0, 0, .linear⟩,
     ⟨500, 500, 255, 0, 0, 0, .linear⟩,
     ⟨200, 200, 255, 0, 0, 0, .linear⟩,
     ⟨1000, 1000, 255, 0, 400, 400, .square⟩,
     ⟨1000, 0, 64, 0, 0, 0, .linear⟩,
     ⟨100, 900, 255, 0, 0, 0, .linear⟩,
     ⟨2000, 2000, 255, 0, 2000, 2000, .linear⟩]

/-- The role map after power-on (R154), from PUTAWAY to BAY_HOLD. -/
def LampRole.defaultMap : Vector PatternNo 10 :=
  #v[4, 5, 2, 3, 6, 7, 1, 3, 2, 6]

/-- The part right after power-on (R183), with every input of the line equipment open and the reset input released: every
block in its full-reset state, RESTART queued with cause POWER_ON, and row 0 of a first pass selected (R122). -/
def State.reset : State where
  clock := { ms := 0, seconds := 0, intoSecond := 0 }
  resetInput := .released
  settings := Settings.defaults
  link := {}
  events := { queue := [⟨0, .restart .powerOn⟩], enables := {}, overflow := false, pulseTimer := none }
  bays := Vector.replicate 16 {}
  arbiter := { converter := .free, askedAt := none, bayMarks := Vector.replicate 16 false, rackMark := none, pointer := .bay 0 }
  load := { granted := Vector.replicate 16 0, derated := Vector.replicate 16 none, starts := [], queue := [] }
  profiles := Vector.replicate 4 none
  plans := Vector.replicate 4 none
  limits := GradeLimits.defaults
  records := Vector.replicate 240 none
  positions := Vector.replicate 240 {}
  holdQueue := []
  scanner := { mode := .active, row := 0, stage := .dwell, dwellTimer := some 20, lastColumn := none, passStart := 0,
               watchTimer := none, watchPeriod := 1800 }
  strings := Vector.replicate 6 none
  lamps := { patterns := Pattern.defaults, epochs := Vector.replicate 8 0, roleMap := LampRole.defaultMap,
             overrides := Vector.replicate 256 none, dark := false }
  pending := []

end Sys2Proof.Machine
end

