-- ==== Sys2Proof/Machine/Ops.lean ====
section
/-! DEFINITION. The named updates of the state, one for each of its items, the part's clock, and the readings of bays, records,
positions and strings that every block shares. -/

namespace Sys2Proof.Machine

/-! ## One update for each item -/

def State.setClock (x : Clock) (s : State) : State := { s with clock := x }

def State.setResetInput (x : ResetInput) (s : State) : State := { s with resetInput := x }

def State.setSettings (x : Settings) (s : State) : State := { s with settings := x }

def State.setLink (x : Link) (s : State) : State := { s with link := x }

def State.setEvents (x : Events) (s : State) : State := { s with events := x }

def State.setBays (x : Vector Bay 16) (s : State) : State := { s with bays := x }

def State.setArbiter (x : Arbiter) (s : State) : State := { s with arbiter := x }

def State.setLoad (x : Load) (s : State) : State := { s with load := x }

def State.setProfiles (x : Vector (Option Profile) 4) (s : State) : State := { s with profiles := x }

def State.setPlans (x : Vector (Option Plan) 4) (s : State) : State := { s with plans := x }

def State.setLimits (x : GradeLimits) (s : State) : State := { s with limits := x }

def State.setRecords (x : Vector (Option Record) 240) (s : State) : State := { s with records := x }

def State.setPositions (x : Vector Position 240) (s : State) : State := { s with positions := x }

def State.setHoldQueue (x : List BayNo) (s : State) : State := { s with holdQueue := x }

def State.setScanner (x : Scanner) (s : State) : State := { s with scanner := x }

def State.setStrings (x : Vector (Option StringEntry) 6) (s : State) : State := { s with strings := x }

def State.setLamps (x : Lamps) (s : State) : State := { s with lamps := x }

def State.setPending (x : List Instr) (s : State) : State := { s with pending := x }

/-! ## Entries of the tables -/

def State.bay (b : BayNo) (s : State) : Bay := s.bays[b]

def State.setBay (b : BayNo) (x : Bay) (s : State) : State := s.setBays (s.bays.set b x)

/-- A change of the bay's state alone. -/
def State.setBayState (b : BayNo) (x : BayState) (s : State) : State := s.setBay b { s.bay b with state := x }

/-- A change of the running program: the bay is TESTING with `p`. -/
def State.setProgram (b : BayNo) (p : Program) (s : State) : State := s.setBayState b (.testing p)

def State.record (r : RecordNo) (s : State) : Option Record := s.records[r]

def State.setRecord (r : RecordNo) (x : Option Record) (s : State) : State := s.setRecords (s.records.set r x)

/-- A change to a record in use; nothing for a free index. -/
def State.updateRecord (r : RecordNo) (f : Record → Record) (s : State) : State :=
  match s.record r with
  | some x => s.setRecord r (some (f x))
  | none => s

def State.position (p : PositionNo) (s : State) : Position := s.positions[p]

def State.setPosition (p : PositionNo) (x : Position) (s : State) : State := s.setPositions (s.positions.set p x)

/-- A change of a position's state; its debounced presence and mark belong to the scanner (R83). -/
def State.setPositionState (p : PositionNo) (x : PositionState) (s : State) : State :=
  s.setPosition p { s.position p with state := x }

def State.string (k : StringNo) (s : State) : Option StringEntry := s.strings[k]

def State.setString (k : StringNo) (x : Option StringEntry) (s : State) : State := s.setStrings (s.strings.set k x)

/-- The position at a row and column (00_scope.md, Numbering). -/
def positionAt (row : RowNo) (column : ColumnNo) : PositionNo := ⟨row * 24 + column, by omega⟩

/-! ## Time -/

/-- The seconds counter's reading after `n` whole seconds: 32 bits hold it, and past them it is a free value
(assumption 4). -/
def countSeconds (n : Nat) : Seconds :=
  if n < 4294967296 then n else (Config.secondsPastTop n).toNat

/-- `d` milliseconds go by with the seconds counter running (00_scope.md, Time). -/
def Clock.elapse (d : Nat) (c : Clock) : Clock where
  ms := c.ms + d
  seconds := if c.intoSecond + d < 1000 then c.seconds else countSeconds (c.seconds + (c.intoSecond + d) / 1000)
  intoSecond := (c.intoSecond + d) % 1000

/-- R182: the reset input holds the part in full reset. -/
def State.heldInReset (s : State) : Bool :=
  match s.resetInput with
  | .heldFull _ => true
  | _ => false

/-- `d` milliseconds go by. While the part is held in full reset the seconds counter stays at 0 (R182). -/
def State.elapse (d : Nat) (s : State) : State :=
  s.setClock (if s.heldInReset then { s.clock with ms := s.clock.ms + d } else s.clock.elapse d)

/-- The moment `m` of a timer's expiry has come: the time still to run until it goes by (assumption 2). -/
def State.reach (m : Moment) (s : State) : State :=
  if s.clock.ms < m then s.elapse (m - s.clock.ms) else s

/-- The millisecond timers' present moment. -/
def State.now (s : State) : Moment := s.clock.ms

/-- The value of the seconds counter. -/
def State.seconds (s : State) : Seconds := s.clock.seconds

/-! ## Readings -/

/-- The plan a program runs; its slot stays loaded and unwritten while the bay is TESTING (R21). -/
def State.planOf (request : RunRequest) (s : State) : Plan := s.plans[request.plan].getD default

/-- The profile a program names; its slot stays loaded and unwritten while the bay is TESTING (R64). -/
def State.profileOf (request : RunRequest) (s : State) : Profile := s.profiles[request.profile].getD default

/-- R1: the clamp is commanded closed, and with it the contactor, in these states. -/
def BayState.clampCommanded : BayState → Bool
  | .empty | .seated | .releasing _ => false
  | .engaging _ | .engaged | .testing _ | .hold _ _ | .faulted _ => true

/-- The name of a bay state (R173). -/
def BayState.name : BayState → BayStateName
  | .empty => .empty
  | .seated => .seated
  | .engaging _ => .engaging
  | .engaged => .engaged
  | .testing _ => .testing
  | .hold _ _ => .hold
  | .releasing _ => .releasing
  | .faulted _ => .faulted

/-- The program of a TESTING bay. -/
def State.program (b : BayNo) (s : State) : Option Program :=
  match (s.bay b).state with
  | .testing p => some p
  | _ => none

/-- R7, R21: a TESTING bay is running a program on this plan slot. -/
def State.planInUse (k : SlotNo) (s : State) : Bool :=
  (List.finRange 16).any fun b => (s.program b).any fun p => p.request.plan == k

/-- R7, R64: a TESTING bay is running a program that names this profile slot. -/
def State.profileInUse (k : SlotNo) (s : State) : Bool :=
  (List.finRange 16).any fun b => (s.program b).any fun p => p.request.profile == k

/-- The lowest-numbered FREE position (R85). -/
def State.freePosition (s : State) : Option PositionNo :=
  (List.finRange 240).find? fun p => (s.position p).state == .free

/-- The lowest free record index (R81). -/
def State.freeRecord (s : State) : Option RecordNo :=
  (List.finRange 240).find? fun r => (s.record r).isNone

/-- Grades from best to worst (00_scope.md, Grades). -/
def Grade.rank : Grade → Nat
  | .a => 0
  | .b => 1
  | .c => 2
  | .r => 3

/-- "At least as good as". -/
def Grade.atLeast (g limit : Grade) : Bool := g.rank ≤ limit.rank

/-- A cap replaces a better grade with the cap and leaves a worse one as it is. -/
def Grade.cap (limit g : Grade) : Grade := if g.rank < limit.rank then limit else g

end Sys2Proof.Machine
end

