-- ==== Sys2Proof/Machine/Flags.lean ====
section
/-! DEFINITION. The event queue, the overflow flag and the attention output (09_events_and_the_attention_line.md). -/

namespace Sys2Proof.Machine

/-- The class of each kind (R161). -/
def Happening.cls : Happening → EventClass
  | .baySeated _ | .bayEmpty _ | .bayEngaged _ | .testDone .. | .bayFault .. | .bayHold .. | .resultDiscarded .. => .bay
  | .derateOn .. | .derateOff .. => .load
  | .recordShelved .. | .unknownOccupant _ | .occupantGone _ | .strayRemoval .. | .reseated .. | .recordStale _
  | .recordFresh _ | .downgraded .. | .shelfReject .. | .rejectRemoved .. => .pool
  | .stringReserved .. | .slotPicked .. | .slotReplaced .. | .stringBlocked .. | .stringComplete .. => .string
  | .restart _ | .lineStop | .woken _ => .system

/-- Whether a class is queued (R167). -/
def ClassEnables.allows (e : ClassEnables) : EventClass → Bool
  | .bay => e.bay
  | .load => e.load
  | .pool => e.pool
  | .string => e.string
  | .system => e.system

/-- A record joins the tail (R162). Joining an empty queue in PULSE mode starts or restarts the pulse timer (R169). -/
def Events.join (e : Events) (mode : AttentionMode) (now : Moment) (x : Event) : Events :=
  { e with
    queue := e.queue ++ [x]
    pulseTimer := if mode = .pulse ∧ e.queue = [] then some (now + Config.pulseTime) else e.pulseTimer }

/-- A block raises an event: disabled, it is not queued; enabled, it joins the tail or is lost with the overflow flag set
(R162, R164). -/
def State.raise (w : Happening) (s : State) : State :=
  if s.events.enables.allows w.cls then
    if s.events.queue.length < Config.eventPlaces then
      s.setEvents (s.events.join s.settings.attention s.now ⟨s.seconds, w⟩)
    else s.setEvents { s.events with overflow := true }
  else s

/-- Events raised one after another. -/
def State.raiseAll : List Happening → State → State
  | [], s => s
  | w :: ws, s => State.raiseAll ws (s.raise w)

/-- R165: the oldest records are removed and the overflow flag cleared. -/
def State.takeEvents (count : Nat) (s : State) : State :=
  s.setEvents { s.events with queue := s.events.queue.drop count, overflow := false }

/-- R167: the enable of one class after a request, from its bits in the two lists; a class on both becomes enabled. -/
def enableAfter (enable disable before : Bool) : Bool := enable || (before && !disable)

/-- R168, R169: whether the attention output is asserted. -/
def State.attentionAsserted (s : State) : Bool :=
  match s.settings.attention with
  | .level => !s.events.queue.isEmpty
  | .pulse => s.events.pulseTimer.isSome

/-- R170: a mode is written. The mode in force written again changes nothing; a change in either direction leaves no pulse
running. -/
def State.writeAttention (m : AttentionMode) (s : State) : State :=
  if m = s.settings.attention then s
  else (s.setSettings { s.settings with attention := m }).setEvents { s.events with pulseTimer := none }

end Sys2Proof.Machine
end

