-- ==== Sys2Proof/Machine/LoadBus.lean ====
section
/-! DEFINITION. The load scheduler (03_conversions_and_the_load_bus.md, R49-R58): granted currents, the start list, the grant
queue and its examination, returns, derating and restores. -/

namespace Sys2Proof.Machine

/-- The sum of the sixteen granted currents (R49). -/
def Load.grantedSum (l : Load) : Nat := l.granted.toList.sum

/-- R50: the aging timer: it runs to the moment the oldest start leaves the window, and is stopped while the list is empty. -/
def State.agingTimer (s : State) : Option Moment := s.load.starts.head?.map (· + s.settings.startWindow)

/-- R53: what an entry adds to the granted sum: its current, or for a restore the increase over the derated current. -/
def Load.increase (l : Load) (e : GrantEntry) : Nat :=
  match e.kind with
  | .restore _ => e.current - l.granted[e.bay]
  | _ => e.current

/-- Whether an entry is a restore; a restore is not a start (R50). -/
def GrantEntry.isRestore (e : GrantEntry) : Bool :=
  match e.kind with
  | .restore _ => true
  | _ => false

/-- R53: both checks on the head. -/
def State.fits (e : GrantEntry) (s : State) : Bool :=
  s.load.grantedSum + s.load.increase e ≤ s.settings.busBudget && (e.isRestore || s.load.starts.length < Config.startLimit)

/-- R29, R34, R55: a bay told of its grant turns its load on and times its phase from the grant. -/
def State.loadOn (b : BayNo) (s : State) : State :=
  match s.program b with
  | some p =>
    match p.phase with
    | .pulseWait =>
      s.setProgram b { p with phase := .pulseOn (s.now + (s.planOf p.request).pulseDuration)
                                        (s.now + Config.monitorPeriod) false }
    | .drainWait =>
      s.setProgram b { p with phase := .drainOn (s.now + Config.samplePeriod)
                                        (s.now + (s.planOf p.request).timeLimit * 1000) }
    | _ => s
  | none => s

/-- R55: an entry that has left the head is granted. -/
def State.grantEntry (e : GrantEntry) (s : State) : State :=
  match e.kind with
  | .restore heatsink =>
    (s.setLoad { s.load with granted := s.load.granted.set e.bay e.current, derated := s.load.derated.set e.bay none }).raise
      (.derateOff e.bay e.current heatsink)
  | _ =>
    (s.setLoad { s.load with granted := s.load.granted.set e.bay e.current, starts := s.load.starts ++ [s.now] }).loadOn e.bay

/-- R53: the head is examined and granted while it fits, up to `n` entries. -/
def State.examineUpTo : Nat → State → State
  | 0, s => s
  | n + 1, s =>
    match s.load.queue with
    | [] => s
    | e :: rest =>
      if s.fits e then State.examineUpTo n ((s.setLoad { s.load with queue := rest }).grantEntry e) else s

/-- R53, R54: an examination of the head goes on until the queue is empty or the head fails a check. -/
def State.examine (s : State) : State := State.examineUpTo s.load.queue.length s

/-- R52, R54: an entry joins the tail; joining an empty queue causes an examination. -/
def State.joinGrantQueue (e : GrantEntry) (s : State) : State :=
  if s.load.queue = [] then (s.setLoad { s.load with queue := [e] }).examine
  else s.setLoad { s.load with queue := s.load.queue ++ [e] }

/-- R52: a bay's entry leaves the queue ungranted; leaving from the head causes an examination (R54). -/
def State.leaveGrantQueue (b : BayNo) (s : State) : State :=
  let left := s.setLoad { s.load with queue := s.load.queue.filter fun e => e.bay != b }
  match s.load.queue with
  | e :: _ => if e.bay = b then left.examine else left
  | [] => left

/-- R56: a bay returns its grant, with its derated mark and any restore entry, and the head is examined; a bay with no grant
returns nothing. -/
def State.returnGrant (b : BayNo) (s : State) : State :=
  if s.load.granted[b] = 0 then s
  else
    (s.setLoad { s.load with
      granted := s.load.granted.set b 0
      derated := s.load.derated.set b none
      queue := s.load.queue.filter fun e => !(e.isRestore && e.bay == b) }).examine

/-- Whether a restore of this bay waits in the queue (R57). -/
def State.restoreWaiting (b : BayNo) (s : State) : Bool :=
  s.load.queue.any fun e => e.isRestore && e.bay == b

/-- R49, R58: a drain is derated: its granted current falls to half its setpoint, rounded down, and the head is examined. A current
below that, which no run reaches, is not raised (DEDUCED, assumption 30). -/
def State.derateBay (b : BayNo) (setpoint : Nat) (heatsink : Int) (s : State) : State :=
  ((s.setLoad { s.load with
      granted := s.load.granted.set b (min s.load.granted[b] (setpoint / 2))
      derated := s.load.derated.set b (some setpoint) }).raise (.derateOn b setpoint (setpoint / 2) heatsink)).examine

/-- R57, R58: what the thermal check of a drain with its load on does below the shutdown threshold. -/
def State.drainThermal (b : BayNo) (drainCurrent : Nat) (heatsink : Int) (s : State) : State :=
  match s.load.derated[b] with
  | none => if s.settings.derate ≤ heatsink then s.derateBay b drainCurrent heatsink else s
  | some setpoint =>
    if s.restoreWaiting b then
      if s.settings.derate ≤ heatsink then s.leaveGrantQueue b else s
    else if heatsink ≤ (s.settings.derate : Int) - s.settings.hysteresis then
      s.joinGrantQueue ⟨b, .restore heatsink, setpoint⟩
    else s

/-- R61: at line stop every grant is returned, the queue emptied and every derated mark cleared; the start list is kept. -/
def Load.stopped (l : Load) : Load :=
  { l with granted := Vector.replicate 16 0, derated := Vector.replicate 16 none, queue := [] }

end Sys2Proof.Machine
end

