-- ==== Sys2Proof/Machine/Conversions.lean ====
section
/-! DEFINITION. The conversion arbiter (03_conversions_and_the_load_bus.md, R44-R48). -/

namespace Sys2Proof.Machine

/-- The cyclic order from bay 0 (03, The shared converter). -/
def Requester.order : List Requester := (List.finRange 16).map .bay ++ [.rack]

/-- A requester's place in the cyclic order. -/
def Requester.place : Requester → Nat
  | .bay b => b
  | .rack => 16

/-- R47: the requester that follows. -/
def Requester.following : Requester → Requester
  | .bay b => if h : b.val + 1 < 16 then .bay ⟨b + 1, h⟩ else .rack
  | .rack => .bay 0

/-- R46: the order of a search from the pointer, once round. -/
def Requester.searchFrom (pointer : Requester) : List Requester :=
  Requester.order.drop pointer.place ++ Requester.order.take pointer.place

/-- Whether a requester's pending mark is set (R45). -/
def Arbiter.marked (a : Arbiter) : Requester → Bool
  | .bay b => a.bayMarks[b]
  | .rack => a.rackMark.isSome

/-- R46: a free converter is granted to the first marked requester at or after the pointer; the pointer does not move. -/
def Arbiter.grantNext (now : Moment) (a : Arbiter) : Arbiter :=
  match a.converter with
  | .busy _ _ => a
  | .free =>
    match (a.pointer.searchFrom).find? a.marked with
    | some r => { a with converter := .busy r (now + Config.conversionTime) }
    | none => a

/-- R45, R46: a mark has been set at the moment `now`. A free converter is granted at once. A converter that a request of this same
moment found free is granted anew: the requests have arrived together, and the search takes them in pointer order
(DEDUCED, assumption 29). Any other busy converter lets the mark wait. -/
def Arbiter.asked (now : Moment) (a : Arbiter) : Arbiter :=
  match a.converter with
  | .free => Arbiter.grantNext now { a with askedAt := some now }
  | .busy r _ => if a.askedAt = some now ∧ a.marked r = true then Arbiter.grantNext now { a with converter := .free } else a

/-- R45: a bay's mark is set. -/
def Arbiter.askBay (b : BayNo) (now : Moment) (a : Arbiter) : Arbiter :=
  Arbiter.asked now { a with bayMarks := a.bayMarks.set b true }

/-- R45: the rack scanner's mark is set with the position to measure. -/
def Arbiter.askRack (p : PositionNo) (now : Moment) (a : Arbiter) : Arbiter :=
  Arbiter.asked now { a with rackMark := some p }

/-- R47: the served requester's mark is cleared, before its record reaches it. -/
def Arbiter.clearMark (r : Requester) (a : Arbiter) : Arbiter :=
  match r with
  | .bay b => { a with bayMarks := a.bayMarks.set b false }
  | .rack => { a with rackMark := none }

/-- R47: the pointer moves on past the requester served, the converter is free, and the next grant is made. -/
def Arbiter.finish (r : Requester) (now : Moment) (a : Arbiter) : Arbiter :=
  Arbiter.grantNext now { a with converter := .free, askedAt := none, pointer := r.following }

/-- The part's form of the arbiter's operations. -/
def State.askBay (b : BayNo) (s : State) : State := s.setArbiter (s.arbiter.askBay b s.now)

def State.askRack (p : PositionNo) (s : State) : State := s.setArbiter (s.arbiter.askRack p s.now)

/-- R24, R27-R40: a program asks for a conversion in its current phase. -/
def State.askForProgram (b : BayNo) (p : Program) (s : State) : State :=
  (s.setProgram b { p with awaiting := true }).askBay b

/-- R48, R61: at line stop the marks of all sixteen bays are cleared; the rest is kept. -/
def Arbiter.dropBays (a : Arbiter) : Arbiter := { a with bayMarks := Vector.replicate 16 false }

end Sys2Proof.Machine
end

