-- ==== Sys2Proof/Machine/Grading.lean ====
section
/-! DEFINITION. The grading and drift arithmetic, on whole numbers (04_grading_arithmetic.md; R113, R114). -/

namespace Sys2Proof.Machine

/-- A result limited to the top of its range (R62). -/
def saturate (top x : Nat) : Nat := min x top

/-- R67: the per-cell voltage, rounded down. -/
def perCell (voltage cells : Nat) : Nat := voltage / cells

/-- R67: the segment search over the remaining breakpoints, `k` being the first one's number: the state of charge of the
per-cell voltage `c` from the segment that holds it; 1000 at or above the last breakpoint. -/
def socFrom (c : Nat) : Nat → List Nat → Nat
  | k, lo :: hi :: rest =>
    if c < hi then 50 * k + 50 * (c - lo) / (hi - lo) else socFrom c (k + 1) (hi :: rest)
  | _, _ => 1000

/-- R67: the state of charge, in permille, of a module voltage. -/
def stateOfCharge (f : Profile) (voltage cells : Nat) : Nat :=
  if perCell voltage cells ≤ f.breakpoints[0] then 0
  else socFrom (perCell voltage cells) 0 f.breakpoints.toList

/-- The answers of the REST0 gate (R68). -/
inductive GateAnswer where
  | rejectDeep
  | rejectOver
  | tempOut
  | pass (soc : Nat)
  deriving DecidableEq, Repr

/-- Whether a module temperature lies outside the plan's window; both ends belong to the window (R31, R68). -/
def Plan.tempOutside (p : Plan) (t : Int) : Bool := t < p.windowLow || p.windowHigh < t

/-- R68: the REST0 gate, the voltage tests before the temperature. -/
def restGate (f : Profile) (p : Plan) (cells voltage : Nat) (t : Int) : GateAnswer :=
  if perCell voltage cells < f.breakpoints[0] then .rejectDeep
  else if f.breakpoints[20] + 50 < perCell voltage cells then .rejectOver
  else if p.tempOutside t then .tempOut
  else .pass (stateOfCharge f voltage cells)

/-- R69: the measured resistance in µΩ, an exact half rounded up, saturated at 65,535. -/
def measuredResistance (v0 vp ip : Nat) : Nat :=
  saturate 65535 ((2 * (v0 - vp) * 100000 + ip) / (2 * ip))

/-- R70: the resistance at 25 °C, saturated at 65,535. -/
def resistanceAt25 (rm k : Nat) (t : Int) : Nat :=
  saturate 65535 (rm * 10000 / (10000 + (k : Int) * (t - 25)).toNat)

/-- R71: the resistance ratio in permille, saturated at 9,999. -/
def resistanceRatio (r25 nominal : Nat) : Nat := saturate 9999 (r25 * 1000 / nominal)

/-- R72: the fall of the state of charge across the drain, signed. -/
def socFall (s0 s1 : Nat) : Int := (s0 : Int) - s1

/-- R73, R74: capacity and state of health of a drain that took `charge`, absent where the fall is below 50. -/
def drainCapacity (charge nameplate : Nat) (fall : Int) : Option Capacity :=
  if 50 ≤ fall then
    let c := saturate 1000000 (charge * 25 / (36 * fall.toNat))
    some ⟨c, saturate 1200 (c * 1000 / nameplate)⟩
  else none

/-- R78: the grade by the resistance ratio alone. -/
def GradeLimits.byRatio (l : GradeLimits) (rr : Nat) : Grade :=
  if rr ≤ l.rrA then .a else if rr ≤ l.rrB then .b else if rr ≤ l.rrC then .c else .r

/-- R77: the grade by state of health and resistance ratio. -/
def GradeLimits.byBoth (l : GradeLimits) (soh rr : Nat) : Grade :=
  if l.sohA ≤ soh ∧ rr ≤ l.rrA then .a
  else if l.sohB ≤ soh ∧ rr ≤ l.rrB then .b
  else if l.sohC ≤ soh ∧ rr ≤ l.rrC then .c
  else .r

/-- R77, R78: the uncapped grade. -/
def GradeLimits.uncapped (l : GradeLimits) (c : Option Capacity) (rr : Nat) : Grade :=
  match c with
  | some x => l.byBoth x.health rr
  | none => l.byRatio rr

/-- R78, R79: the caps of CAP_ABSENT and SPARSE at B, and of UNSETTLED at C. -/
def Flags.capGrade (f : Flags) (g : Grade) : Grade :=
  let g := if f.capAbsent then Grade.cap .b g else g
  let g := if f.sparse then Grade.cap .b g else g
  if f.unsettled then Grade.cap .c g else g

/-- R114: the drift in µV per cell per day from the baseline (Vb, tb) to the sample (Vx, tx). -/
def driftOf (b : Baseline) (vx tx cells : Nat) : Nat :=
  saturate 65535 ((b.voltage - vx) * 86400000 / ((tx - b.time) * cells))

/-- R76: what a set of six limits must satisfy. -/
def GradeLimits.valid (l : GradeLimits) : Bool :=
  (1 ≤ l.sohA && l.sohA ≤ 1200) && (1 ≤ l.sohB && l.sohB ≤ 1200) && (1 ≤ l.sohC && l.sohC ≤ 1200)
    && (1 ≤ l.rrA && l.rrA ≤ 9999) && (1 ≤ l.rrB && l.rrB ≤ 9999) && (1 ≤ l.rrC && l.rrC ≤ 9999)
    && l.sohB ≤ l.sohA && l.sohC ≤ l.sohB && l.rrA ≤ l.rrB && l.rrB ≤ l.rrC

/-- Whether a list of numbers rises strictly (R64). -/
def risesStrictly : List Nat → Bool
  | a :: b :: rest => a < b && risesStrictly (b :: rest)
  | _ => true

/-- R64: the checks on a profile's contents. -/
def Profile.valid (f : Profile) : Bool :=
  f.breakpoints.toList.all (fun b => 2000 ≤ b && b ≤ 4600) && risesStrictly f.breakpoints.toList && f.coefficient ≤ 200

/-- R21: the checks on a plan's fields. -/
def Plan.valid (p : Plan) : Bool :=
  (1000 ≤ p.restTime && p.restTime ≤ 60000)
    && (100 ≤ p.pulseCurrent && p.pulseCurrent ≤ 30000)
    && (1000 ≤ p.pulseDuration && p.pulseDuration ≤ 30000)
    && (1000 ≤ p.recoveryTime && p.recoveryTime ≤ 120000)
    && (100 ≤ p.drainCurrent && p.drainCurrent ≤ 30000)
    && (50 ≤ p.drainDepth && p.drainDepth ≤ 800)
    && (2000 ≤ p.floorVoltage && p.floorVoltage ≤ 4000)
    && (60 ≤ p.timeLimit && p.timeLimit ≤ 14400)
    && (10 ≤ p.settleWindow && p.settleWindow ≤ 600)
    && (1 ≤ p.stabilityBand && p.stabilityBand ≤ 20)
    && (-20 ≤ p.windowLow && p.windowLow ≤ 40)
    && (0 ≤ p.windowHigh && p.windowHigh ≤ 60)
    && p.windowLow < p.windowHigh

end Sys2Proof.Machine
end

