-- ==== Sys2Proof/Machine/Pairing.lean ====
section
/-! DEFINITION. The pairing engine (07_string_pairing.md): eligibility, the window search in both modes, reservation, the
retry round, picks, and repair by substitution. -/

namespace Sys2Proof.Machine

/-! ## Eligibility and values -/

/-- R125: the values a slot takes from a record at its reservation. -/
def Record.values (x : Record) : SlotValues where
  capacity := x.capacity.map (·.milliampHours)
  resistance := x.resistance
  voltage := x.restVoltage
  identity := x.identity

/-- R126: the four conditions of eligibility. -/
def StringRequest.accepts (q : StringRequest) (x : Record) : Bool :=
  x.state == .available && !x.stale && x.profile == q.profile && x.cells == q.cells && x.grade.atLeast q.minGrade
    && (q.mode == .resistance || x.capacity.isSome)

/-- A record that a search looks at, with its values. -/
structure Candidate where
  record : RecordNo
  values : SlotValues
  deriving DecidableEq, Repr

/-- The records eligible for a string, in ascending index (R81, R126). -/
def State.eligible (q : StringRequest) (s : State) : List Candidate :=
  (List.finRange 240).filterMap fun r =>
    match s.record r with
    | some x => if q.accepts x then some ⟨r, x.values⟩ else none
    | none => none

/-- The figure a mode orders and chooses by: capacity, or resistance at 25 °C (R128, R130). -/
def StringMode.primary (m : StringMode) (v : SlotValues) : Nat :=
  match m with
  | .capacity => v.capacity.getD 0
  | .resistance => v.resistance

/-- The largest of a figure less the smallest. -/
def spread (f : SlotValues → Nat) : List SlotValues → Nat
  | [] => 0
  | v :: vs => vs.foldl (fun m x => max m (f x)) (f v) - vs.foldl (fun m x => min m (f x)) (f v)

/-- R128, R130: a set lies within every tolerance of its mode, the tolerance itself included. -/
def StringRequest.within (q : StringRequest) (vs : List SlotValues) : Bool :=
  (q.mode == .resistance || spread (StringMode.primary .capacity) vs ≤ q.capacityTolerance)
    && spread SlotValues.resistance vs ≤ q.resistanceTolerance
    && spread SlotValues.voltage vs ≤ q.voltageTolerance

/-! ## The window search -/

/-- One insertion of R128's order: before the first entry of a greater figure, so that equal figures keep their order. -/
def insertByPrimary (m : StringMode) (c : Candidate) : List Candidate → List Candidate
  | [] => [c]
  | d :: ds =>
    if m.primary c.values < m.primary d.values then c :: d :: ds else d :: insertByPrimary m c ds

/-- R128, R130: the candidates in ascending order of the mode's figure, equal figures in ascending record index. -/
def sortByPrimary (m : StringMode) (cs : List Candidate) : List Candidate :=
  cs.foldl (fun sorted c => insertByPrimary m c sorted) []

/-- R128: every run of `n` candidates that stand next to each other, from the lowest. -/
def windows (n : Nat) : List Candidate → List (List Candidate)
  | [] => []
  | c :: cs => if n ≤ cs.length + 1 then (c :: cs).take n :: windows n cs else []

/-- The mode's spread of a window. -/
def StringMode.windowSpread (m : StringMode) (w : List Candidate) : Nat := spread m.primary (w.map (·.values))

/-- The mode's figure of a window's first, lowest candidate. -/
def StringMode.windowLowest (m : StringMode) (w : List Candidate) : Nat :=
  match w with
  | [] => 0
  | c :: _ => m.primary c.values

/-- R129, R130: a window displaces an earlier choice by a smaller spread, or at an equal spread by a greater lowest capacity
(CAPACITY) or a lower lowest resistance (RESISTANCE); otherwise the earlier one stays. -/
def StringMode.beats (m : StringMode) (w best : List Candidate) : Bool :=
  m.windowSpread w < m.windowSpread best
    || (m.windowSpread w == m.windowSpread best
        && match m with
           | .capacity => m.windowLowest best < m.windowLowest w
           | .resistance => m.windowLowest w < m.windowLowest best)

/-- R129, R130: the chosen one of several windows in their order. -/
def chooseWindow (m : StringMode) (ws : List (List Candidate)) : Option (List Candidate) :=
  ws.foldl (fun best w =>
    match best with
    | none => some w
    | some x => if m.beats w x then some w else some x) none

/-- R128-R130: the search of a string's mode over the candidates eligible for it. -/
def StringRequest.search (q : StringRequest) (cs : List Candidate) : Option (List Candidate) :=
  chooseWindow q.mode ((windows q.length (sortByPrimary q.mode cs)).filter fun w => q.within (w.map (·.values)))

/-! ## Reservation -/

/-- R125, R131: a record becomes RESERVED for a string and slot. -/
def State.reserveRecord (k : StringNo) (slot : Nat) (r : RecordNo) (s : State) : State :=
  s.updateRecord r fun x => { x with state := .reserved k slot }

/-- R131: the records of a window become RESERVED, slot by slot from `slot`. -/
def State.reserveAll (k : StringNo) : Nat → List Candidate → State → State
  | _, [], s => s
  | slot, c :: cs, s => State.reserveAll k (slot + 1) cs (s.reserveRecord k slot c.record)

/-- R131: a chosen window is reserved: the slot list is written, the string becomes PICKING, and STRING_RESERVED is queued. -/
def State.reserveWindow (k : StringNo) (x : StringEntry) (w : List Candidate) (s : State) : State :=
  ((s.setString k (some { x with state := .picking, slots := w.map fun c => .reserved c.record c.values })).reserveAll
      k 0 w).raise (.stringReserved k x.request.length (w.map (·.record)))

/-- R127, R132: a WAITING string's search: reserved where a window qualifies, unchanged otherwise. -/
def State.searchString (k : StringNo) (x : StringEntry) (s : State) : State :=
  match x.request.search (s.eligible x.request) with
  | some w => s.reserveWindow k x w
  | none => s

/-! ## Substitution -/

/-- The values of the RESERVED and PICKED slots (R140). -/
def workingValues (slots : List Slot) : List SlotValues :=
  slots.filterMap fun x =>
    match x with
    | .reserved _ v => some v
    | .picked v _ _ => some v
    | .vacant => none

/-- R140: among candidates in ascending index, the qualifying one that gives the working set the smallest primary spread; a
tie stays with the lower index. -/
def StringRequest.chooseSubstitute (q : StringRequest) (working : List SlotValues) (cs : List Candidate) :
    Option Candidate :=
  (cs.filter fun c => q.within (c.values :: working)).foldl (fun best c =>
    match best with
    | none => some c
    | some d =>
      if spread q.mode.primary (c.values :: working) < spread q.mode.primary (d.values :: working) then some c else some d)
    none

/-- R140: the fillings of the VACANT slots, in ascending slot number; none if some slot finds no candidate. Each chosen
candidate joins the working set and leaves the candidates. -/
def StringRequest.substitutes (q : StringRequest) : Nat → List Slot → List SlotValues → List Candidate →
    Option (List (Nat × Candidate))
  | _, [], _, _ => some []
  | i, .vacant :: slots, working, cs =>
    match q.chooseSubstitute working cs with
    | none => none
    | some c =>
      match StringRequest.substitutes q (i + 1) slots (c.values :: working) (cs.filter fun d => d.record != c.record) with
      | none => none
      | some rest => some ((i, c) :: rest)
  | i, _ :: slots, working, cs => StringRequest.substitutes q (i + 1) slots working cs

/-- R141: the chosen records are committed slot by slot. -/
def State.commitSubstitutes (k : StringNo) : List (Nat × Candidate) → State → State
  | [], s => s
  | (i, c) :: rest, s =>
    let s := match s.string k with
      | some x => s.setString k (some { x with slots := x.slots.set i (.reserved c.record c.values) })
      | none => s
    State.commitSubstitutes k rest (s.reserveRecord k i c.record)

/-- R141: SLOT_REPLACED for each filled slot, in ascending slot number. -/
def slotsReplaced (k : StringNo) (fills : List (Nat × Candidate)) : List Happening :=
  fills.map fun f => .slotReplaced k f.1 f.2.record

/-- The count of VACANT slots (R141, R145). -/
def vacantCount (slots : List Slot) : Nat := slots.countP fun x => x == .vacant

/-- The count of PICKED slots (R135, R145). -/
def pickedCount (slots : List Slot) : Nat :=
  slots.countP fun x =>
    match x with
    | .picked .. => true
    | _ => false

/-- R140: the substitution of a string over the pool as it stands. -/
def State.findSubstitutes (x : StringEntry) (s : State) : Option (List (Nat × Candidate)) :=
  x.request.substitutes 0 x.slots (workingValues x.slots) (s.eligible x.request)

/-- R141: a successful substitution is committed and the string is PICKING. -/
def State.fillSlots (k : StringNo) (x : StringEntry) (fills : List (Nat × Candidate)) (s : State) : State :=
  ((s.setString k (some { x with state := .picking })).commitSubstitutes k fills).raiseAll (slotsReplaced k fills)

/-- R139, R141: the substitution of a repair; failing, the string is BLOCKED and STRING_BLOCKED is queued. -/
def State.repairString (k : StringNo) (s : State) : State :=
  match s.string k with
  | some x =>
    match s.findSubstitutes x with
    | some fills => s.fillSlots k x fills
    | none => (s.setString k (some { x with state := .blocked })).raise (.stringBlocked k (vacantCount x.slots))
  | none => s

/-! ## The retry round -/

/-- R134: one string's turn in a round. -/
def State.retryString (k : StringNo) (s : State) : State :=
  match s.string k with
  | some x =>
    match x.state with
    | .waiting => s.searchString k x
    | .blocked =>
      match s.findSubstitutes x with
      | some fills => s.fillSlots k x fills
      | none => s
    | .picking | .complete => s
  | none => s

/-- R133, R134: a round of retries takes the strings in ascending number, each meeting the pool the one before it left. -/
def State.retryRound (s : State) : State := (List.finRange 6).foldl (fun s k => s.retryString k) s

/-! ## Picks, vacating and release -/

/-- R135, R136: the pick of a slot: PICKED with its order number and time, SLOT_PICKED, and completion. -/
def State.pickSlot (k : StringNo) (slot : Nat) (p : PositionNo) (s : State) : State :=
  match s.string k with
  | some x =>
    match x.slots[slot]? with
    | some (.reserved _ v) =>
      let order := pickedCount x.slots + 1
      let slots := x.slots.set slot (.picked v order s.seconds)
      let done := pickedCount slots = slots.length
      let s := (s.setString k (some { x with slots := slots, state := if done then .complete else x.state })).raise
        (.slotPicked k slot order p)
      if done then s.raise (.stringComplete k x.request.length) else s
    | _ => s
  | none => s

/-- R139: the slot of an unfit record becomes VACANT. -/
def State.vacateSlot (k : StringNo) (slot : Nat) (s : State) : State :=
  match s.string k with
  | some x => s.setString k (some { x with slots := x.slots.set slot .vacant })
  | none => s

/-- R143: a reservation released leaves its record AVAILABLE. A record that is not RESERVED has none to release (DEDUCED, assumption
30). -/
def RecordState.released : RecordState → RecordState
  | .reserved _ _ => .available
  | x => x

/-- R143: a released record is AVAILABLE with no reservation. -/
def State.releaseRecord (r : RecordNo) (s : State) : State :=
  s.updateRecord r fun x => { x with state := x.state.released }

/-- R143: every RESERVED slot of a slot list releases its record. -/
def State.releaseSlots : List Slot → State → State
  | [], s => s
  | .reserved r _ :: slots, s => State.releaseSlots slots (s.releaseRecord r)
  | _ :: slots, s => State.releaseSlots slots s

/-- The lowest-numbered RESERVED slot from number `i` on (R137). -/
def lowestReserved : Nat → List Slot → Option Nat
  | _, [] => none
  | i, .reserved _ _ :: _ => some i
  | i, _ :: slots => lowestReserved (i + 1) slots

/-- R137, R145: the slot number of a string that shows NEXT_PICK. -/
def StringEntry.nextPick (x : StringEntry) : Option Nat := lowestReserved 0 x.slots

/-- The minimum grade of a string in use (R138). -/
def State.minGradeOf (k : StringNo) (s : State) : Option Grade := (s.string k).map (·.request.minGrade)

end Sys2Proof.Machine
end

