-- ==== Sys2Proof/Machine/Pool.lean ====
section
/-! DEFINITION. The module pool and the shelf positions (05_the_module_pool_and_shelf_positions.md): records, hold
assignments, presence changes, shelf samples with their drift (R113-R115), and staleness. -/

namespace Sys2Proof.Machine

/-! ## A bay's clamp -/

/-- R9, R20: the clamp opens and the release guard runs: the bay is RELEASING. -/
def State.openClamp (b : BayNo) (s : State) : State :=
  s.setBayState b (.releasing (s.now + s.settings.releaseGuard))

/-- R12, R42, R43: the bay after a result, by its auto-release choice. -/
def State.afterResult (b : BayNo) (autoRelease : Bool) (s : State) : State :=
  if autoRelease then s.openClamp b else s.setBayState b .engaged

/-! ## Creating records -/

/-- The flags a pool record takes from a graded result (R41, R85): TIME_LIMITED is not carried. -/
def Flags.forRecord (f : Flags) : Flags where
  capAbsent := f.capAbsent
  sparse := f.sparse
  unsettled := f.unsettled

/-- R85: the record made from a graded result. -/
def GradedResult.record (g : GradedResult) (p : PositionNo) : Record where
  state := .unshelved
  position := p
  identity := g.identity
  profile := g.profile
  cells := g.cells
  nameplate := g.nameplate
  grade := g.grade
  capacity := g.capacity
  resistance := g.resistance
  ratio := g.ratio
  flags := g.flags.forRecord
  origin := .bay g.origin
  gradedTime := g.gradedTime
  restVoltage := g.restVoltage
  restTime := g.restTime
  sampled := false
  baseline := none
  drift := none
  stale := false

/-- R85: where a graded result goes: the lowest free index and the lowest FREE position, if there is one. -/
def State.placeFor (s : State) : Option (RecordNo × PositionNo) :=
  match s.freePosition, s.freeRecord with
  | some p, some r => some (r, p)
  | _, _ => none

/-- R85: the record is created UNSHELVED and bound to its position, which becomes ASSIGNED. -/
def State.bindRecord (r : RecordNo) (p : PositionNo) (x : Record) (s : State) : State :=
  (s.setRecord r (some x)).setPositionState p (.assigned r)

/-- R12: the last result of a bay whose HOLD result gets its place, and the bay's exit from HOLD with TEST_DONE. -/
def State.leaveHold (b : BayNo) (q : RunRequest) (g : GradedResult) (r : RecordNo) (p : PositionNo) (s : State) : State :=
  ((s.setBay b { s.bay b with
      lastResult := (s.bay b).lastResult.map fun l => { l with record := some r, position := some p } }).raise
    (.testDone b .graded (some g.grade) (some r) (some p))).afterResult b q.autoRelease

/-- R87: FREE positions go to the bays of the hold queue, head first, up to `n` of them. -/
def State.assignHeldUpTo : Nat → State → State
  | 0, s => s
  | n + 1, s =>
    match s.holdQueue with
    | [] => s
    | b :: rest =>
      match (s.bay b).state, s.placeFor with
      | .hold q g, some (r, p) =>
        State.assignHeldUpTo n (((s.setHoldQueue rest).bindRecord r p (g.record p)).leaveHold b q g r p)
      | _, _ => s

/-- R87: at the end of a transition that freed a position, assignments go on while a FREE position and a waiting bay remain. -/
def State.assignHeld (s : State) : State := State.assignHeldUpTo s.holdQueue.length s

/-- R81: a record's index is freed. -/
def State.deleteRecord (r : RecordNo) (s : State) : State := s.setRecord r none

/-- R96: a candidate notice starts one round of retries. -/
def State.candidateNotice (s : State) : State := s.retryRound

/-! ## Confirmed presence changes on the rack -/

/-- R88: a record is shelved at a position: AVAILABLE, not stale, with no baseline. -/
def State.shelve (r : RecordNo) (p : PositionNo) (s : State) : State :=
  ((s.updateRecord r fun x => { x with state := .available, position := p, stale := false, baseline := none, drift := none
      }).setPositionState p (.held r)).raise (.recordShelved r p)

/-- R88-R90: a confirmed arrival acts on the position by its state; at a HELD or UNKNOWN position it cannot occur. -/
def State.arrival (p : PositionNo) (s : State) : State :=
  match (s.position p).state with
  | .free => (s.setPositionState p .unknown).raise (.unknownOccupant p)
  | .assigned r => (s.shelve r p).candidateNotice
  | .vacated r =>
    (((s.updateRecord r fun x =>
        { x with state := .available, flags := { x.flags with reseated := true }, baseline := none, drift := none }
      ).setPositionState p (.held r)).raise (.reseated r p)).candidateNotice
  | .held _ | .unknown => s

/-- R91-R93: a confirmed removal from a HELD position acts by its record's state. -/
def State.removeHeld (r : RecordNo) (x : Record) (p : PositionNo) (s : State) : State :=
  match x.state with
  | .reserved k slot => (((s.pickSlot k slot p).deleteRecord r).setPositionState p .free).assignHeld
  | .available =>
    ((s.setRecord r (some { x with state := .absent, stale := false })).setPositionState p (.vacated r)).raise
      (.strayRemoval r p)
  | .rejected => (((s.deleteRecord r).setPositionState p .free).raise (.rejectRemoved p r x.origin)).assignHeld
  | .unshelved | .absent => s

/-- R89, R91-R93: a confirmed removal acts on the position by its state; at a FREE, ASSIGNED or VACATED position it cannot
occur. -/
def State.removal (p : PositionNo) (s : State) : State :=
  match (s.position p).state with
  | .held r =>
    match s.record r with
    | some x => s.removeHeld r x p
    | none => s
  | .unknown => ((s.setPositionState p .free).raise (.occupantGone p)).assignHeld
  | .free | .assigned _ | .vacated _ => s

/-! ## Shelf samples -/

/-- R115: one step down. -/
def Grade.lowered : Grade → Grade
  | .a => .b
  | .b => .c
  | .c => .r
  | .r => .r

/-- R97, R115: a shelf reject. A reservation ends first, with its slot vacated; the record becomes REJECTED with grade R and
SHELF_REJECT is queued; the string is then repaired. -/
def State.shelfReject (r : RecordNo) (x : Record) (d : Nat) (s : State) : State :=
  let rejected (s : State) : State :=
    (s.setRecord r (some { x with state := .rejected, grade := .r })).raise (.shelfReject r x.position x.grade d)
  match x.state with
  | .reserved k slot => (rejected (s.vacateSlot k slot)).repairString k
  | _ => rejected s

/-- R115: a record one grade lower, with DOWNGRADED set. -/
def Record.downgraded (x : Record) : Record :=
  { x with grade := x.grade.lowered, flags := { x.flags with downgraded := true } }

/-- R97, R138, R139: a reserved record `y` whose lowered grade falls below its string's minimum grade is released, its slot
vacated and the string repaired, and one round of retries follows (R133). -/
def State.recheckReservation (r : RecordNo) (y : Record) (s : State) : State :=
  match y.state with
  | .reserved k slot =>
    match s.minGradeOf k with
    | some limit =>
      if y.grade.atLeast limit then s
      else (((s.setRecord r (some { y with state := .available })).vacateSlot k slot).repairString k).candidateNotice
    | none => s
  | _ => s

/-- R97, R115: a one-step downgrade from A or B. -/
def State.downgradeRecord (r : RecordNo) (x : Record) (d : Nat) (s : State) : State :=
  ((s.setRecord r (some x.downgraded)).raise (.downgraded r x.grade x.downgraded.grade d)).recheckReservation r x.downgraded

/-- Whether drift may act on a record's grade: AVAILABLE or RESERVED (R115). -/
def RecordState.gradeable : RecordState → Bool
  | .available | .reserved _ _ => true
  | .unshelved | .absent | .rejected => false

/-- R115: the grade action on the drift `d` just stored. -/
def State.gradeAction (r : RecordNo) (x : Record) (d : Nat) (s : State) : State :=
  if !x.state.gradeable then s
  else if s.settings.reject < d then s.shelfReject r x d
  else if s.settings.downgrade < d ∧ x.flags.downgraded = false then
    match x.grade with
    | .a | .b => s.downgradeRecord r x d
    | .c =>
      let y : Record := { x with flags := { x.flags with downgraded := true } }
      (s.setRecord r (some y)).shelfReject r y d
    | .r => s
  else s

/-- R94 step 2, R113, R114: the baseline and drift after a sample; `x` is the record with the sample already in it. -/
def State.updateDrift (r : RecordNo) (x : Record) (s : State) : State :=
  match x.baseline with
  | none => s.setRecord r (some { x with baseline := some ⟨x.restVoltage, x.restTime⟩ })
  | some b =>
    if x.restTime - b.time < s.settings.minObservation then s
    else
      let d := driftOf b x.restVoltage x.restTime x.cells
      let y : Record := { x with drift := some d }
      (s.setRecord r (some y)).gradeAction r y d

/-- R94 steps 3 and 4: a stale mark is cleared with RECORD_FRESH, and a record AVAILABLE by then sends a notice. -/
def State.freshen (r : RecordNo) (s : State) : State :=
  let s := (s.updateRecord r fun x => { x with stale := false }).raise (.recordFresh r)
  match s.record r with
  | some x => if x.state = .available then s.candidateNotice else s
  | none => s

/-- R94, R112: a rack conversion record is applied to the record of a HELD position, and discarded elsewhere. -/
def State.shelfSample (p : PositionNo) (voltage : Nat) (s : State) : State :=
  match (s.position p).state with
  | .held r =>
    match s.record r with
    | some x =>
      let y : Record := { x with restVoltage := voltage, restTime := s.seconds, sampled := true }
      let s := (s.setRecord r (some y)).updateDrift r y
      if x.stale then s.freshen r else s
    | none => s
  | _ => s

/-! ## Staleness -/

/-- R95: at the end of a row visit a HELD position's record past the freshness limit is marked, if it is not already. -/
def State.markStaleAt (p : PositionNo) (s : State) : State :=
  match (s.position p).state with
  | .held r =>
    match s.record r with
    | some x =>
      if !x.stale && s.settings.freshness < s.seconds - x.restTime then
        (s.setRecord r (some { x with stale := true })).raise (.recordStale r)
      else s
    | none => s
  | _ => s

/-- R95: the staleness evaluation of a row, in column order. -/
def State.markStale (row : RowNo) (s : State) : State :=
  (List.finRange 24).foldl (fun s column => s.markStaleAt (positionAt row column)) s

end Sys2Proof.Machine
end

