-- ==== Sys2Proof/Machine/Scanner.lean ====
section
/-! DEFINITION. The rack scanner and shelf watch (06_rack_scanning_and_shelf_watch.md): row selection, due tests, visits and
passes, presence confirmation, the entry to shelf watch and its end. -/

namespace Sys2Proof.Machine

/-- R110: a position is due when it is HELD and its record has not been sampled on the shelf, or was last sampled at least the
sample interval ago. -/
def State.due (p : PositionNo) (s : State) : Bool :=
  match (s.position p).state with
  | .held r =>
    match s.record r with
    | some x => !x.sampled || x.restTime + s.settings.sampleInterval ≤ s.seconds
    | none => false
  | _ => false

/-- R110: a column stands above the last column requested in this visit. -/
def ColumnNo.above (c : ColumnNo) (last : Option ColumnNo) : Bool :=
  match last with
  | none => true
  | some l => l < c

/-- R110: the lowest due column of the row above the last one requested. -/
def State.nextDue (s : State) : Option ColumnNo :=
  (List.finRange 24).find? fun c => ColumnNo.above c s.scanner.lastColumn && s.due (positionAt s.scanner.row c)

/-- R110, R111: the due test; a due column is requested. -/
def State.dueTest (s : State) : State :=
  match s.nextDue with
  | some c =>
    (s.setScanner { s.scanner with lastColumn := some c }).askRack (positionAt s.scanner.row c)
  | none => s

/-- R106, R107: a row is selected: its dwell timer starts, and row 0 opens a pass. -/
def State.selectRow (row : RowNo) (s : State) : State :=
  (s.setScanner { s.scanner with
    row := row
    stage := .dwell
    dwellTimer := some (s.now + s.settings.rowDwell)
    lastColumn := none
    passStart := if row = 0 then s.now else s.scanner.passStart
    watchTimer := none }).dueTest

/-- R107, R119: after row 9 the next pass begins at once, or in WATCH at the pass start time plus the watch interval in force
at entry. DESIGN CHOICE (assumption 33): where that moment is the present one, neither still to come nor passed, row 0 is selected at
once. -/
def State.endPass (s : State) : State :=
  match s.scanner.mode with
  | .active => s.selectRow 0
  | .watch =>
    if s.now < s.scanner.passStart + s.scanner.watchPeriod * 1000 then
      s.setScanner { s.scanner with
        row := 0, stage := .betweenPasses, watchTimer := some (s.scanner.passStart + s.scanner.watchPeriod * 1000) }
    else s.selectRow 0

/-- R106: a visit ends: staleness is evaluated and the next row or pass is selected. -/
def State.endVisit (s : State) : State :=
  let s := s.markStale s.scanner.row
  if h : s.scanner.row.val + 1 < 10 then s.selectRow ⟨s.scanner.row + 1, h⟩ else s.endPass

/-- R111, R112: a rack record reaches the pool; during DWELL the next due test follows, and in TAIL the visit ends. -/
def State.deliverRack (p : PositionNo) (voltage : Nat) (s : State) : State :=
  let s := s.shelfSample p voltage
  match s.scanner.stage with
  | .dwell => s.dueTest
  | .tail => s.endVisit
  | .betweenPasses => s

/-! ## Shelf watch -/

/-- R121, R123, R158: the watch ends: ACTIVE mode, lamps relit, and a scanner between passes selects row 0 at once. -/
def State.leaveWatch (s : State) : State :=
  let s := (s.setScanner { s.scanner with mode := .active }).setLamps { s.lamps with dark := false }
  if s.scanner.stage = .betweenPasses then s.selectRow 0 else s

/-- R121: a wake. WOKEN is queued; in ACTIVE mode nothing happens. -/
def State.wake (cause : WokenCause) (s : State) : State :=
  if s.scanner.mode = .watch then (s.raise (.woken cause)).leaveWatch else s

/-- R118: a bay may stand so in shelf watch. -/
def BayState.quiet : BayState → Bool
  | .empty | .seated => true
  | _ => false

/-- R118, R158: the entry to shelf watch, with the lamps darkened and the watch interval in force taken. -/
def State.enterWatch (s : State) : State :=
  (s.setScanner { s.scanner with mode := .watch, watchPeriod := s.settings.watchInterval }).setLamps
    { s.lamps with dark := true }

/-! ## Presence confirmation -/

/-- R83, R121: a confirmed change acts in the pool and then ends a shelf watch. -/
def State.confirmedChange (p : PositionNo) (present : Bool) (s : State) : State :=
  (if present then s.arrival p else s.removal p).wake .rack

/-- R108: one contact reading. A first differing reading sets the mark, a second confirms the change, and an equal reading
clears the mark. -/
def State.readContact (p : PositionNo) (raw : Bool) (s : State) : State :=
  let x := s.position p
  if raw = x.present then s.setPosition p { x with pendingChange := false }
  else if x.pendingChange then
    (s.setPosition p { x with present := raw, pendingChange := false }).confirmedChange p raw
  else s.setPosition p { x with pendingChange := true }

/-- R108: the readings of a row's contacts, column 0 first. -/
def State.readRow (row : RowNo) (contacts : BitVec 24) (s : State) : State :=
  (List.finRange 24).foldl (fun s (column : ColumnNo) =>
    s.readContact (positionAt row column) (contacts.getLsbD column.val)) s

/-- R106: the dwell timer has expired: the contacts are read, and the visit ends or waits in TAIL for a pending sample. -/
def State.dwellOver (contacts : BitVec 24) (s : State) : State :=
  let s := (s.setScanner { s.scanner with dwellTimer := none }).readRow s.scanner.row contacts
  if s.arbiter.rackMark.isSome then s.setScanner { s.scanner with stage := .tail } else s.endVisit

end Sys2Proof.Machine
end

