-- ==== Sys2Proof/Machine/Bays.lean ====
section
/-! DEFINITION. Bay faults, the ends of a program, the verdict, and the contacts of a bay (01_test_bays.md;
02_the_test_program.md, R41-R43). -/

namespace Sys2Proof.Machine

/-! ## Ends of a program -/

/-- The last result of a program that ends without a verdict: no grade, record or position (R43). -/
def Program.endedWith (p : Program) (o : TestOutcome) (time : Seconds) : LastResult where
  outcome := o
  grade := none
  flags := p.flags
  identity := p.identity
  record := none
  position := none
  endTime := time

/-- The outcome a fault or a line stop leaves behind: of a program, its end; of a HOLD result, its discarding (R14, R20). -/
def BayState.endedBy (b : BayNo) (o : TestOutcome) : BayState → List Happening
  | .testing _ => [.testDone b o none none none]
  | .hold _ g => [.resultDiscarded b g.grade]
  | _ => []

/-- R14, R20: a bay after a fault or a line stop, in its new state: a program's last result is written, and a HOLD result is
discarded with its result role. -/
def Bay.stopped (o : TestOutcome) (time : Seconds) (x : BayState) (y : Bay) : Bay :=
  match y.state with
  | .testing p => { y with state := x, lastResult := some (p.endedWith o time) }
  | .hold _ _ => { y with state := x, resultRole := .none }
  | _ => { y with state := x }

/-- R14: the bay enters FAULTED: load off and grant returned, the queues left, BAY_FAULT, and the end of its program or HOLD
result. -/
def State.enterFault (b : BayNo) (cause : FaultCause) (s : State) : State :=
  let s := (s.returnGrant b).leaveGrantQueue b
  let s := s.setHoldQueue (s.holdQueue.filter (· != b))
  let before := s.bay b
  ((s.setBay b (before.stopped .faulted s.seconds (.faulted cause))).raise (.bayFault b cause)).raiseAll
    (before.state.endedBy b .faulted)

/-- R14, R15: a fault cause arises at a bay; in FAULTED the first cause stays. -/
def State.faultBay (b : BayNo) (cause : FaultCause) (s : State) : State :=
  match (s.bay b).state with
  | .faulted _ => s
  | _ => s.enterFault b cause

/-- R8, R43: a program ends with ABORTED or TEMP_OUT: whatever it holds on the load bus is given up, the bay is ENGAGED, and
TEST_DONE is queued without a grade. -/
def State.endProgram (b : BayNo) (p : Program) (o : TestOutcome) (s : State) : State :=
  let s := (s.returnGrant b).leaveGrantQueue b
  (s.setBay b { s.bay b with state := .engaged, lastResult := some (p.endedWith o s.seconds) }).raise
    (.testDone b o none none none)

/-! ## The verdict -/

/-- R42: a verdict of grade R: no record, BAY_REJECT, TEST_DONE, and the bay's release by its choice. -/
def State.rejectResult (b : BayNo) (p : Program) (o : TestOutcome) (f : Flags) (s : State) : State :=
  ((s.setBay b { s.bay b with
      lastResult := some ⟨o, some .r, f, p.identity, none, none, s.seconds⟩
      resultRole := .bayReject }).raise (.testDone b o (some .r) none none)).afterResult b p.request.autoRelease

/-- R41, R72-R74: the capacity a program's drain gives, if it had one that resolves a capacity. -/
def Program.capacityBy (p : Program) (f : Profile) (drained : Option SettleReading) : Option Capacity :=
  match drained with
  | some v1 => drainCapacity p.charge p.request.nameplate (socFall p.rest.soc (stateOfCharge f v1.voltage p.request.cells))
  | none => none

/-- R41, R80: the graded result. `drained` is the settled reading of a plan with a drain. -/
def Program.grade (p : Program) (b : BayNo) (f : Profile) (l : GradeLimits) (drained : Option SettleReading)
    (time : Seconds) : GradedResult :=
  let capacity := p.capacityBy f drained
  let flags := { p.flags with capAbsent := capacity.isNone }
  { grade := flags.capGrade (l.uncapped capacity p.pulse.ratio)
    identity := p.identity
    profile := p.request.profile
    cells := p.request.cells
    nameplate := p.request.nameplate
    capacity := capacity
    resistance := p.pulse.resistance
    ratio := p.pulse.ratio
    flags := flags
    restVoltage := match drained with
      | some v1 => v1.voltage
      | none => p.rest.voltage
    restTime := match drained with
      | some v1 => v1.time
      | none => p.rest.time
    gradedTime := time
    origin := b }

/-- R11, R43: a passing result: a record and position if a position is FREE, and HOLD otherwise. -/
def State.passResult (b : BayNo) (p : Program) (g : GradedResult) (s : State) : State :=
  match s.placeFor with
  | some (r, q) =>
    let s := s.bindRecord r q (g.record q)
    ((s.setBay b { s.bay b with
        lastResult := some ⟨.graded, some g.grade, g.flags, g.identity, some r, some q, s.seconds⟩
        resultRole := .bayPass }).raise (.testDone b .graded (some g.grade) (some r) (some q))).afterResult b
      p.request.autoRelease
  | none =>
    ((s.setBay b { s.bay b with
        state := .hold p.request g
        lastResult := some ⟨.graded, some g.grade, g.flags, g.identity, none, none, s.seconds⟩
        resultRole := .bayPass }).setHoldQueue (s.holdQueue ++ [b])).raise (.bayHold b g.grade)

/-- R41-R43: the verdict, reached and left within one event. -/
def State.verdict (b : BayNo) (p : Program) (drained : Option SettleReading) (s : State) : State :=
  let g := p.grade b (s.profileOf p.request) s.limits drained s.seconds
  match g.grade with
  | .r => s.rejectResult b p .graded g.flags
  | _ => s.passResult b p g

/-! ## Contacts -/

/-- A contact of a bay. -/
def Bay.contact (c : Contact) (y : Bay) : ContactLevel :=
  match c with
  | .presence => y.presence
  | .clampClosed => y.clampClosed

def Bay.setContact (c : Contact) (x : ContactLevel) (y : Bay) : Bay :=
  match c with
  | .presence => { y with presence := x }
  | .clampClosed => { y with clampClosed := x }

/-- R3, R10: the bay is SEATED, with BAY_SEATED. -/
def State.seat (b : BayNo) (s : State) : State := (s.setBayState b .seated).raise (.baySeated b)

/-- R3, R10: the bay is EMPTY with its result role cleared, and BAY_EMPTY. -/
def State.vacate (b : BayNo) (s : State) : State :=
  (s.setBay b { s.bay b with state := .empty, resultRole := .none }).raise (.bayEmpty b)

/-- R3: a confirmed arrival by bay state. -/
def State.presenceGained (b : BayNo) (s : State) : State :=
  match (s.bay b).state with
  | .empty => s.seat b
  | _ => s

/-- R3: a confirmed loss by bay state. -/
def State.presenceLost (b : BayNo) (s : State) : State :=
  match (s.bay b).state with
  | .empty | .faulted _ => s
  | .seated | .releasing _ => s.vacate b
  | .engaging _ | .engaged | .testing _ | .hold _ _ => s.faultBay b .presenceLost

/-- R4: a confirmed clamp opening by bay state. -/
def State.clampOpened (b : BayNo) (s : State) : State :=
  match (s.bay b).state with
  | .engaged | .testing _ | .hold _ _ => s.faultBay b .clampOpen
  | .empty | .seated | .engaging _ | .releasing _ | .faulted _ => s

/-- R3, R4, R18: a confirmed change, its debounced level already taken. A presence change ends a shelf watch after the bay's
own event. -/
def State.contactConfirmed (b : BayNo) (c : Contact) (closed : Bool) (s : State) : State :=
  match c, closed with
  | .presence, true => (s.presenceGained b).wake .bay
  | .presence, false => (s.presenceLost b).wake .bay
  | .clampClosed, true => s
  | .clampClosed, false => s.clampOpened b

/-- R2: a raw level that now differs from the debounced one starts the debounce timer afresh, and one that agrees stops it. -/
def ContactLevel.timed (debounce : Nat) (now : Moment) (x : ContactLevel) : ContactLevel :=
  { x with timer := if x.raw = x.debounced then none else some (now + debounce) }

end Sys2Proof.Machine
end

