-- ==== Sys2Proof/Machine/Programs.lean ====
section
/-! DEFINITION. The phases of a test program (02_the_test_program.md): entering each phase, and what a program does with the
conversion records delivered to it. -/

namespace Sys2Proof.Machine

/-- A bay conversion record's values (R44). -/
structure Reading where
  voltage : Nat
  current : Nat
  moduleTemp : Int
  heatsink : Int
  deriving DecidableEq, Repr

/-- A program in a new phase asks for nothing yet: records of the phase before are discarded (R24). -/
def Program.enter (x : Phase) (p : Program) : Program := { p with phase := x, awaiting := false }

/-- R28: the bay enters LOAD_WAIT of PULSE and its start request joins the grant queue. -/
def State.askPulse (b : BayNo) (p : Program) (s : State) : State :=
  (s.setProgram b (p.enter .pulseWait)).joinGrantQueue ⟨b, .pulseStart, (s.planOf p.request).pulseCurrent⟩

/-- R28: PULSE begins: with a cool heatsink the load is asked for, and otherwise COOL_WAIT. -/
def State.beginPulse (b : BayNo) (p : Program) (s : State) : State :=
  if p.rest.heatsink < s.settings.derate then s.askPulse b p
  else s.setProgram b (p.enter (.coolWait (s.now + Config.coolWaitPeriod)))

/-- R27: the rest reading, kept and judged by the REST0 gate. -/
def State.restReading (b : BayNo) (p : Program) (x : Reading) (s : State) : State :=
  let p := { p with rest := ⟨x.voltage, x.moduleTemp, x.heatsink, s.seconds, 0⟩ }
  match restGate (s.profileOf p.request) (s.planOf p.request) p.request.cells x.voltage x.moduleTemp with
  | .rejectDeep => s.rejectResult b p .rejectDeep p.flags
  | .rejectOver => s.rejectResult b p .rejectOver p.flags
  | .tempOut => s.endProgram b p .tempOut
  | .pass soc => s.beginPulse b { p with rest := { p.rest with soc := soc } }

/-- R28: a COOL_WAIT reading: below the derate threshold the load is asked for. -/
def State.coolReading (b : BayNo) (p : Program) (x : Reading) (s : State) : State :=
  if x.heatsink < s.settings.derate then s.askPulse b p else s

/-- R29, R31: less than half the pulse current. -/
def Plan.shortfall (pl : Plan) (current : Nat) : Bool := current * 2 < pl.pulseCurrent

/-- R29: a monitor record in LOAD_ON; the first of the pulse is tested for shortfall. -/
def State.monitorReading (b : BayNo) (p : Program) (duration monitor : Moment) (tested : Bool) (x : Reading) (s : State) :
    State :=
  if !tested && (s.planOf p.request).shortfall x.current then s.faultBay b .loadShortfall
  else s.setProgram b { p with phase := .pulseOn duration monitor true }

/-- R30: a monitor record in END_WAIT, used as R29 gives; the end conversion is then asked for. -/
def State.lastMonitorReading (b : BayNo) (p : Program) (tested : Bool) (x : Reading) (s : State) : State :=
  if !tested && (s.planOf p.request).shortfall x.current then s.faultBay b .loadShortfall
  else s.askForProgram b { p with phase := .endWait true true }

/-- R69-R71: the pulse reading with its resistance figures. -/
def pulseFigures (f : Profile) (q : RunRequest) (v0 : Nat) (x : Reading) : PulseReading :=
  let r := resistanceAt25 (measuredResistance v0 x.voltage x.current) f.coefficient x.moduleTemp
  ⟨x.voltage, x.current, x.moduleTemp, r, resistanceRatio r q.nominal⟩

/-- R33: RECOVER begins. -/
def State.beginRecover (b : BayNo) (p : Program) (s : State) : State :=
  s.setProgram b (p.enter (.recover (s.now + (s.planOf p.request).recoveryTime)))

/-- R31: the end conversion's record: the load goes off and the grant is returned, and then the six steps in order. -/
def State.endReading (b : BayNo) (p : Program) (x : Reading) (s : State) : State :=
  let s := s.returnGrant b
  if s.settings.shutdown ≤ x.heatsink then s.faultBay b .heat
  else if p.abortPending then s.endProgram b p .aborted
  else if p.rest.voltage ≤ x.voltage then s.faultBay b .pulseNoDrop
  else if (s.planOf p.request).shortfall x.current then s.faultBay b .loadShortfall
  else if (s.planOf p.request).tempOutside x.moduleTemp then s.endProgram b p .tempOut
  else s.beginRecover b { p with pulse := pulseFigures (s.profileOf p.request) p.request p.rest.voltage x }

/-- R34: DRAIN begins in LOAD_WAIT with its counts at zero, and its start request joins the grant queue. -/
def State.beginDrain (b : BayNo) (p : Program) (s : State) : State :=
  (s.setProgram b { p.enter .drainWait with charge := 0, overruns := 0, overrunsSince := 0 }).joinGrantQueue
    ⟨b, .drainStart, (s.planOf p.request).drainCurrent⟩

/-- R33: the recovery time is over: DRAIN or VERDICT by the plan. -/
def State.recovered (b : BayNo) (p : Program) (s : State) : State :=
  if (s.planOf p.request).drain then s.beginDrain b p else s.verdict b p none

/-- R38, R39: the drain ends: load off, grant returned, timers stopped, and SETTLE begins. -/
def State.endDrain (b : BayNo) (p : Program) (s : State) : State :=
  (s.setProgram b { p.enter (.settle (some (s.now + (s.planOf p.request).settleWindow * 1000))) with
      settleCount := 0, settleLatest := none, settleBefore := none }).returnGrant b

/-- R36: a drain record that has passed the thermal check. -/
def State.drainReading (b : BayNo) (p : Program) (x : Reading) (s : State) : State :=
  let p := { p with charge := p.charge + x.current * (1 + p.overrunsSince), overrunsSince := 0 }
  let plan := s.planOf p.request
  let s := s.setProgram b p
  if plan.windowHigh + 10 < x.moduleTemp then s.faultBay b .moduleHot
  else if p.request.nameplate * plan.drainDepth * Config.samplesPerMilliampHour ≤ p.charge * 1000 then s.endDrain b p
  else if perCell x.voltage p.request.cells < plan.floorVoltage then s.endDrain b p
  else s

/-- R39: two settle readings agree within the stability band, in either direction. -/
def settled (before new band : Nat) : Bool := before - new ≤ band && new - before ≤ band

/-- R39, R40: a settle record: stable, it is V1; unstable, the next window starts, or at the sixth UNSETTLED is set. -/
def State.settleReading (b : BayNo) (p : Program) (x : Reading) (s : State) : State :=
  let new : SettleReading := ⟨x.voltage, s.seconds⟩
  let plan := s.planOf p.request
  let stable := match p.settleLatest with
    | some before => settled before.voltage x.voltage (plan.stabilityBand * p.request.cells)
    | none => false
  let p := { p with settleCount := p.settleCount + 1, settleBefore := p.settleLatest, settleLatest := some new }
  if stable then s.verdict b p (some new)
  else if p.settleCount < Config.settleReadings then
    s.setProgram b (p.enter (.settle (some (s.now + plan.settleWindow * 1000))))
  else s.verdict b { p with flags := { p.flags with unsettled := true } } (some new)

/-- R24: the phase's use of a record that has passed the discard test and the thermal check. -/
def State.useReading (b : BayNo) (p : Program) (x : Reading) (s : State) : State :=
  match p.phase with
  | .rest0 _ => s.restReading b p x
  | .coolWait _ => s.coolReading b p x
  | .pulseOn d m tested => s.monitorReading b p d m tested x
  | .endWait tested _ => s.lastMonitorReading b p tested x
  | .drainOn _ _ => s.drainReading b p x
  | .settle _ => s.settleReading b p x
  | .ident _ _ | .pulseWait | .recover _ | .drainWait => s

/-- R57, R58: below the shutdown threshold the thermal check acts on a drain with its load on, and on nothing else. -/
def State.thermal (b : BayNo) (p : Program) (heatsink : Int) (s : State) : State :=
  match p.phase with
  | .drainOn _ _ => s.drainThermal b (s.planOf p.request).drainCurrent heatsink
  | _ => s

/-- R24, R57: a record of the current phase: thermal check, then the phase's use. -/
def State.currentReading (b : BayNo) (p : Program) (x : Reading) (s : State) : State :=
  let s := s.setProgram b p
  match p.phase with
  | .endWait _ true => s.endReading b p x
  | _ =>
    if s.settings.shutdown ≤ x.heatsink then s.faultBay b .heat
    else (s.thermal b p x.heatsink).useReading b p x

/-- R24: a bay record is delivered; one that answers no request of the current phase is discarded. -/
def State.deliverBay (b : BayNo) (x : Reading) (s : State) : State :=
  match s.program b with
  | some p => if p.awaiting then s.currentReading b { p with awaiting := false } x else s
  | none => s

end Sys2Proof.Machine
end

