-- ==== Sys2Proof/Machine/BayEvents.lean ====
section
/-! DEFINITION. The meanings of the bays' own events: contacts, timers, the tag reader, and the completion of a conversion
(R2-R4, R6, R10, R25-R40, R44, R47). A stopped timer does not expire: its command leaves the part as it is (assumption 3). -/

namespace Sys2Proof.Machine

/-! ## Contacts -/

/-- BAY_CONTACT_CHANGE (R2). A part held in full reset debounces no contacts (R182). -/
def execBayContactChange (bay : BayNo) (contact : Contact) (closed : Bool) (s : State) :
    Host.Outcome State Fault Refusal :=
  let x := (s.bay bay).contact contact
  if x.raw = closed then .next s
  else if s.heldInReset then .next (s.setBay bay ((s.bay bay).setContact contact { x with raw := closed }))
  else
    .next (s.setBay bay ((s.bay bay).setContact contact
      (ContactLevel.timed s.settings.debounce s.now { x with raw := closed })))

/-- R2: the debounce timer has expired: the debounced level takes the raw level, and the change acts on the bay. -/
def State.debounced (b : BayNo) (c : Contact) (s : State) : State :=
  let x := (s.bay b).contact c
  let t := s.setBay b ((s.bay b).setContact c { x with debounced := x.raw, timer := none })
  if x.raw = x.debounced then t else t.contactConfirmed b c x.raw

/-- DEBOUNCE_EXPIRY (R2). -/
def execDebounceExpiry (bay : BayNo) (contact : Contact) (s : State) : Host.Outcome State Fault Refusal :=
  match ((s.bay bay).contact contact).timer with
  | some d => .next ((s.reach d).debounced bay contact)
  | none => .next s

/-! ## Clamp timers -/

/-- R6: the debounced clamp-closed level decides. -/
def State.engageSettled (b : BayNo) (s : State) : State :=
  if (s.bay b).clampClosed.debounced then (s.setBayState b .engaged).raise (.bayEngaged b) else s.faultBay b .clampOpen

/-- ENGAGE_SETTLE_EXPIRY (R6). -/
def execEngageSettleExpiry (bay : BayNo) (s : State) : Host.Outcome State Fault Refusal :=
  match (s.bay bay).state with
  | .engaging d => .next ((s.reach d).engageSettled bay)
  | _ => .next s

/-- R10: the debounced presence level decides. -/
def State.guardOver (b : BayNo) (s : State) : State :=
  if (s.bay b).presence.debounced then s.seat b else s.vacate b

/-- RELEASE_GUARD_EXPIRY (R10). -/
def execReleaseGuardExpiry (bay : BayNo) (s : State) : Host.Outcome State Fault Refusal :=
  match (s.bay bay).state with
  | .releasing d => .next ((s.reach d).guardOver bay)
  | _ => .next s

/-! ## IDENT -/

/-- TAG_READER_ANSWER (R25): the first answer before the read timer expires is kept; any other is discarded. -/
def execTagReaderAnswer (bay : BayNo) (answer : Option Identity) (s : State) : Host.Outcome State Fault Refusal :=
  match s.program bay with
  | some p =>
    match p.phase with
    | .ident d false => .next (s.setProgram bay { p with phase := .ident d true, identity := answer })
    | _ => .next s
  | none => .next s

/-- R26: REST0 begins with its rest timer. -/
def State.beginRest (b : BayNo) (p : Program) (s : State) : State :=
  s.setProgram b (p.enter (.rest0 (some (s.now + (s.planOf p.request).restTime))))

/-- R26: IDENT is decided from the read and the expected identity. -/
def State.decideIdent (b : BayNo) (p : Program) (s : State) : State :=
  match p.request.expected, p.identity with
  | some _, none => s.faultBay b .identUnread
  | some e, some i => if i = e then s.beginRest b p else s.faultBay b .identMismatch
  | none, _ => s.beginRest b p

/-- READ_TIMER_EXPIRY (R26). -/
def execReadTimerExpiry (bay : BayNo) (s : State) : Host.Outcome State Fault Refusal :=
  match s.program bay with
  | some p =>
    match p.phase with
    | .ident d _ => .next ((s.reach d).decideIdent bay p)
    | _ => .next s
  | none => .next s

/-! ## Timers of the measuring phases -/

/-- Whether a request of the bay is pending at the arbiter (R28-R30, R35, R45). -/
def State.bayPending (b : BayNo) (s : State) : Bool := s.arbiter.bayMarks[b]

/-- A periodic timer has expired: the program goes on with its next period, and a conversion is asked for if none is
pending (R28, R29). -/
def State.askIfClear (b : BayNo) (p : Program) (s : State) : State :=
  if s.bayPending b then s.setProgram b p else s.askForProgram b p

/-- REST_TIMER_EXPIRY (R27). -/
def execRestTimerExpiry (bay : BayNo) (s : State) : Host.Outcome State Fault Refusal :=
  match s.program bay with
  | some p =>
    match p.phase with
    | .rest0 (some d) => .next ((s.reach d).askForProgram bay { p with phase := .rest0 none })
    | _ => .next s
  | none => .next s

/-- COOL_WAIT_TIMER_EXPIRY (R28). -/
def execCoolWaitTimerExpiry (bay : BayNo) (s : State) : Host.Outcome State Fault Refusal :=
  match s.program bay with
  | some p =>
    match p.phase with
    | .coolWait d => .next ((s.reach d).askIfClear bay { p with phase := .coolWait (d + Config.coolWaitPeriod) })
    | _ => .next s
  | none => .next s

/-- MONITOR_TIMER_EXPIRY (R29). -/
def execMonitorTimerExpiry (bay : BayNo) (s : State) : Host.Outcome State Fault Refusal :=
  match s.program bay with
  | some p =>
    match p.phase with
    | .pulseOn e d t => .next ((s.reach d).askIfClear bay { p with phase := .pulseOn e (d + Config.monitorPeriod) t })
    | _ => .next s
  | none => .next s

/-- R30: the pulse is over but for its end conversion: asked for at once, or after a pending monitor record. -/
def State.durationOver (b : BayNo) (p : Program) (tested : Bool) (s : State) : State :=
  if s.bayPending b then s.setProgram b { p with phase := .endWait tested false }
  else s.askForProgram b { p with phase := .endWait tested true }

/-- DURATION_TIMER_EXPIRY (R30). -/
def execDurationTimerExpiry (bay : BayNo) (s : State) : Host.Outcome State Fault Refusal :=
  match s.program bay with
  | some p =>
    match p.phase with
    | .pulseOn d _ t => .next ((s.reach d).durationOver bay p t)
    | _ => .next s
  | none => .next s

/-- RECOVERY_TIMER_EXPIRY (R33). -/
def execRecoveryTimerExpiry (bay : BayNo) (s : State) : Host.Outcome State Fault Refusal :=
  match s.program bay with
  | some p =>
    match p.phase with
    | .recover d => .next ((s.reach d).recovered bay p)
    | _ => .next s
  | none => .next s

/-- R35: an overrun is counted, and the 41st of a drain sets SPARSE. -/
def Program.overrun (p : Program) : Program :=
  { p with
    overruns := p.overruns + 1
    overrunsSince := p.overrunsSince + 1
    flags := { p.flags with sparse := p.flags.sparse || Config.overrunsAllowed < p.overruns + 1 } }

/-- R35: a sample is asked for, or the expiry is an overrun. -/
def State.sampleDue (b : BayNo) (p : Program) (s : State) : State :=
  if s.bayPending b then s.setProgram b p.overrun else s.askForProgram b p

/-- SAMPLE_TIMER_EXPIRY (R35). -/
def execSampleTimerExpiry (bay : BayNo) (s : State) : Host.Outcome State Fault Refusal :=
  match s.program bay with
  | some p =>
    match p.phase with
    | .drainOn d e => .next ((s.reach d).sampleDue bay { p with phase := .drainOn (d + Config.samplePeriod) e })
    | _ => .next s
  | none => .next s

/-- TIME_LIMIT_EXPIRY (R37). -/
def execTimeLimitExpiry (bay : BayNo) (s : State) : Host.Outcome State Fault Refusal :=
  match s.program bay with
  | some p =>
    match p.phase with
    | .drainOn _ d => .next ((s.reach d).endDrain bay { p with flags := { p.flags with timeLimited := true } })
    | _ => .next s
  | none => .next s

/-- SETTLE_TIMER_EXPIRY (R39). -/
def execSettleTimerExpiry (bay : BayNo) (s : State) : Host.Outcome State Fault Refusal :=
  match s.program bay with
  | some p =>
    match p.phase with
    | .settle (some d) => .next ((s.reach d).askForProgram bay { p with phase := .settle none })
    | _ => .next s
  | none => .next s

/-! ## The converter and the load bus -/

/-- R47: the record goes to its requester. -/
def State.deliver (r : Requester) (asked : Option PositionNo) (x : Reading) (s : State) : State :=
  match r, asked with
  | .bay b, _ => s.deliverBay b x
  | .rack, some p => s.deliverRack p x.voltage
  | .rack, none => s

/-- R47: a conversion completes: the mark is cleared, the record delivered, the pointer moved on, and the next grant made. -/
def State.completeConversion (r : Requester) (x : Reading) (s : State) : State :=
  let t := (s.setArbiter (s.arbiter.clearMark r)).deliver r s.arbiter.rackMark x
  t.setArbiter (t.arbiter.finish r t.now)

/-- CONVERSION_COMPLETE (R44, R47). With the converter free no conversion completes. -/
def execConversionComplete (voltage current : Nat) (moduleTemp heatsinkTemp : Int) (s : State) :
    Host.Outcome State Fault Refusal :=
  match s.arbiter.converter with
  | .busy r d => .next ((s.reach d).completeConversion r ⟨voltage, current, moduleTemp, heatsinkTemp⟩)
  | .free => .next s

/-- R50: the oldest start time leaves the list and the head of the grant queue is examined. -/
def State.startAged (s : State) : State := (s.setLoad { s.load with starts := s.load.starts.tail }).examine

/-- AGING_TIMER_EXPIRY (R50). -/
def execAgingTimerExpiry (s : State) : Host.Outcome State Fault Refusal :=
  match s.agingTimer with
  | some d => .next ((s.reach d).startAged)
  | none => .next s

end Sys2Proof.Machine
end

