-- ==== Sys2Proof/Machine/Framing.lean ====
section
/-! DEFINITION. The frame layout, its check, and the byte-by-byte receiver (10_link_framing_and_message_reference.md,
R173-R176, R178 step 2). -/

namespace Sys2Proof.Machine

/-! ## Message types -/

/-- The message types of R178's table. -/
def messageTypes : List Byte :=
  [0x01, 0x02, 0x03, 0x04, 0x05, 0x06, 0x07, 0x10, 0x11, 0x12, 0x13, 0x14, 0x20, 0x21, 0x22, 0x23, 0x24, 0x30, 0x31, 0x32,
   0x33, 0x34, 0x35, 0x40, 0x41, 0x42, 0x43, 0x50, 0x51, 0x52, 0x53]

/-- R178 step 2. -/
def isMessageType (t : Byte) : Bool := messageTypes.contains t

/-- R178: the reply's type. -/
def replyType (t : Byte) : Byte := if t.toNat ≤ 0x7E then t + 0x80 else 0xFE

/-! ## The check -/

/-- R174: one shift of the check register. -/
def crcShift (r : BitVec 16) : BitVec 16 := if r.msb then (r <<< 1) ^^^ 0x1021 else r <<< 1

/-- R174: one byte into the check register. -/
def crcByte (r : BitVec 16) (b : Byte) : BitVec 16 :=
  Nat.repeat crcShift 8 (r ^^^ (b.setWidth 16 <<< 8))

/-- R174: the check over a run of bytes. -/
def crc16 (bs : List Byte) : BitVec 16 := bs.foldl crcByte 0xFFFF

/-! ## The layout -/

/-- The low byte of a number. -/
def byte (n : Nat) : Byte := BitVec.ofNat 8 n

/-- R173: two bytes, least significant first. -/
def bytes16 (n : Nat) : List Byte := [byte n, byte (n / 256)]

/-- R173: four bytes, least significant first. -/
def bytes32 (n : Nat) : List Byte := bytes16 n ++ bytes16 (n / 65536)

/-- R173: the fields under the check, in the order they are sent. -/
def checkedBytes (type tag : Byte) (body : List Byte) : List Byte := bytes16 body.length ++ [type, tag] ++ body

/-- R173, R174: a whole frame. -/
def frameBytes (type tag : Byte) (body : List Byte) : List Byte :=
  Config.syncByte :: checkedBytes type tag body ++ bytes16 (crc16 (checkedBytes type tag body)).toNat

/-! ## Reception -/

/-- What the arrival of a byte comes to (R175, R176). -/
inductive Reception where
  | pending
  | sizeFailure
  | checkFailure
  | complete (type tag : Byte) (body : List Byte)
  deriving DecidableEq, Repr

/-- The length a frame under assembly gives. -/
def frameLength (frame : List Byte) : Nat := (frame.getD 1 0).toNat + 256 * (frame.getD 2 0).toNat

/-- R176: the test at the last check byte. -/
def judgeFrame (frame : List Byte) : Reception :=
  let body := (frame.drop 5).take (frameLength frame)
  if bytes16 (crc16 (checkedBytes (frame.getD 3 0) (frame.getD 4 0) body)).toNat = frame.drop (5 + frameLength frame) then
    .complete (frame.getD 3 0) (frame.getD 4 0) body
  else .checkFailure

/-- R175, R176: a byte arrives at the receiver at the moment `now`. -/
def Receiver.receive (b : Byte) (now : Moment) (r : Receiver) : Receiver × Reception :=
  let frame := r.frame ++ [b]
  let stay (stage : ReceiveStage) : Receiver × Reception := (⟨stage, frame, some (now + Config.gapTime)⟩, .pending)
  match r.stage with
  | .hunt =>
    if b = Config.syncByte then (⟨.length, [b], some (now + Config.gapTime)⟩, .pending) else (r, .pending)
  | .length =>
    if frame.length < 3 then stay .length
    else if Config.maxBody < frameLength frame then ({}, .sizeFailure)
    else stay .header
  | .header =>
    if frame.length < 5 then stay .header
    else if frameLength frame = 0 then stay .check
    else stay .body
  | .body => if frame.length < 5 + frameLength frame then stay .body else stay .check
  | .check => if frame.length < 7 + frameLength frame then stay .check else ({}, judgeFrame frame)

/-- Bytes arrive one after another until one ends the frame. -/
def Receiver.receiveAll (now : Moment) : List Byte → Receiver → Receiver × Reception
  | [], r => (r, .pending)
  | b :: bs, r =>
    match r.receive b now with
    | (r', .pending) => Receiver.receiveAll now bs r'
    | ended => ended

end Sys2Proof.Machine
end

