-- ==== Sys2Proof/Machine/Resets.lean ====
section
/-! DEFINITION. The full reset and the line stop, block by block (R19, R20, R48, R60, R61, R104, R105, R122, R123, R148, R159,
R160, R171, R177, R181-R183). -/

namespace Sys2Proof.Machine

/-- R19: a bay controller after a full reset; its contacts' raw levels are inputs and stand as they are. -/
def Bay.cleared (y : Bay) : Bay where
  presence := { raw := y.presence.raw }
  clampClosed := { raw := y.clampClosed.raw }

/-- R2: the debounce timers that start at once after a full reset, for each contact whose raw level differs. -/
def Bay.timersStarted (debounce : Nat) (now : Moment) (y : Bay) : Bay :=
  { y with presence := y.presence.timed debounce now, clampClosed := y.clampClosed.timed debounce now }

/-- R181, R182: every block in its full-reset state with nothing running and no event queued. The reset-line function, the
inputs, the millisecond timers' base and the waiting commands stand as they are; the seconds counter is 0, and every pattern's
epoch is the moment of the reset (R159). -/
def State.cleared (s : State) : State :=
  { State.reset with
    clock := { ms := s.clock.ms, seconds := 0, intoSecond := 0 }
    resetInput := s.resetInput
    settings := { Settings.defaults with resetLine := s.settings.resetLine }
    events := { State.reset.events with queue := [] }
    bays := s.bays.map Bay.cleared
    scanner := { State.reset.scanner with dwellTimer := none, passStart := s.clock.ms }
    lamps := { State.reset.lamps with epochs := Vector.replicate 8 s.clock.ms }
    pending := s.pending }

/-- R2, R122, R171: the blocks start from their full-reset state: the debounce timers of differing contacts, row 0 of a new
pass, and RESTART. -/
def State.start (cause : RestartCause) (s : State) : State :=
  ((s.setBays (s.bays.map (Bay.timersStarted s.settings.debounce s.now))).selectRow 0).raise (.restart cause)

/-- R181: a full reset that takes effect at once. -/
def State.fullReset (cause : RestartCause) (s : State) : State := s.cleared.start cause

/-- R182: a full reset held by the reset input. -/
def State.holdReset (cause : RestartCause) (s : State) : State := s.cleared.setResetInput (.heldFull cause)

/-- R20: whether a line stop moves a bay. -/
def BayState.stops : BayState → Bool
  | .empty | .seated | .releasing _ => false
  | .engaging _ | .engaged | .testing _ | .hold _ _ | .faulted _ => true

/-- R20: a bay at a line stop: one that was doing anything opens its clamp and is RELEASING. -/
def Bay.lineStopped (time : Seconds) (guardEnd : Moment) (y : Bay) : Bay :=
  if y.state.stops then y.stopped .lineStopped time (.releasing guardEnd) else y

/-- R20: the per-bay records of a line stop, in ascending bay order. -/
def State.lineStopRecords (s : State) : List Happening :=
  (List.finRange 16).flatMap fun b => (s.bay b).state.endedBy b .lineStopped

/-- R20, R61, R48: bay activity ends: the bays, the load bus, the bays' conversion requests and the hold queue. -/
def State.stopBays (s : State) : State :=
  (((s.setBays (s.bays.map (Bay.lineStopped s.seconds (s.now + s.settings.releaseGuard)))).setLoad
      s.load.stopped).setArbiter s.arbiter.dropBays).setHoldQueue []

/-- The line stop in every block (R20, R48, R61, R105, R123, R148, R160, R171): LINE_STOP and then the records of the bays. A
shelf watch ends without WOKEN. -/
def State.lineStop (s : State) : State :=
  let stopped := s.stopBays
  let awake := if s.scanner.mode = .watch then stopped.leaveWatch else stopped
  (awake.raise .lineStop).raiseAll s.lineStopRecords

end Sys2Proof.Machine
end

