-- ==== Sys2Proof/Machine/Link.lean ====
section
/-! DEFINITION. The link interface (10_link_framing_and_message_reference.md): the dispatch of a completed frame, replies and
their order, frames rejected at reception, and the moment a RESET takes effect. -/

namespace Sys2Proof.Machine

/-- R176, R177: the receiver is back in HUNT with its gap timer stopped. -/
def State.hunt (s : State) : State := s.setLink { s.link with receiver := {} }

/-- R177: a reply joins the tail of the transmit list. -/
def State.reply (x : Reply) (s : State) : State := s.setLink { s.link with transmit := s.link.transmit ++ [x] }

/-- Whether the link interface takes frames (R177, R181): no reset hold, and a place left in the transmit list. -/
def Link.accepts (l : Link) : Bool := l.resetHold.isNone && l.transmit.length < Config.transmitPlaces

/-- A request's handling by its owner: the state it leaves and the reply's body. -/
abbrev Handler := State → State × ReplyBody

/-- R176-R178: a frame of a message type completes. Held in full reset the part receives nothing (R182); with the reset hold set
or the list full the frame is discarded; otherwise a shelf watch ends (R178 step 1), the owner handles the request, and the
reply is formed from the state it leaves. -/
def State.request (type tag : Byte) (h : Handler) (s : State) : State :=
  if s.heldInReset then s
  else if !s.link.accepts then s.hunt
  else
    let (t, body) := h (s.hunt.wake .link)
    t.reply ⟨replyType type, tag, body⟩

/-- R176, R177: a frame is discarded at reception; its FRAME_REJECTED joins the list unless the hold is set or the list full. -/
def State.rejectFrame (reason : RejectReason) (s : State) : State :=
  if s.heldInReset then s
  else if !s.link.accepts then s.hunt
  else s.hunt.reply ⟨0xFF, 0, .frameRejected reason⟩

/-- R181: a RESET takes effect. -/
def State.takeReset (kind : ResetKind) (s : State) : State :=
  match kind with
  | .full => s.fullReset .full
  | .line => s.lineStop

/-- A refusal: the status alone, and nothing changed (R178). -/
def refuse (status : Status) (s : State) : State × ReplyBody := (s, .plain status)

/-- A request whose fields have been read and checked is handled; otherwise its failing status decides (R178 steps 3 and 4). -/
def withFields {α : Type} (fields : Except Status α) (h : α → Handler) : Handler := fun s =>
  match fields with
  | .ok x => h x s
  | .error status => refuse status s

end Sys2Proof.Machine
end

