-- ==== Sys2Proof/Machine/Lighting.lean ====
section
/-! DEFINITION. What the lamps show (08_guidance_lamps.md): levels and drives, the roles that follow from the owners' state,
and the light of each lamp; with the line outputs of the bays (R1, R25). -/

namespace Sys2Proof.Machine

/-! ## Patterns -/

/-- R150: a fade from `a` to `b` at `t` of its `length` milliseconds; the quotient is rounded down, also below zero. -/
def fadeLevel (a b t length : Nat) : Nat :=
  ((a : Int) + (((b : Int) - a) * t).fdiv length).toNat

/-- R150: the level of a cycling pattern `q` milliseconds into its cycle, its fades clamped to their parts. -/
def Pattern.cycleLevel (p : Pattern) (q : Nat) : Nat :=
  if q < p.onTime then
    if q < min p.fadeIn p.onTime then fadeLevel p.offIntensity p.onIntensity q (min p.fadeIn p.onTime)
    else p.onIntensity
  else if q - p.onTime < min p.fadeOut p.offTime then
    fadeLevel p.onIntensity p.offIntensity (q - p.onTime) (min p.fadeOut p.offTime)
  else p.offIntensity

/-- R149: the level `elapsed` milliseconds after the pattern's epoch: steady with one part, cycling with two. -/
def Pattern.level (p : Pattern) (elapsed : Nat) : Nat :=
  if p.offTime = 0 then p.onIntensity
  else if p.onTime = 0 then p.offIntensity
  else p.cycleLevel (elapsed % (p.onTime + p.offTime))

/-- R151: the drive of a level. -/
def Curve.drive (c : Curve) (level : Nat) : Nat :=
  match c with
  | .linear => 255 * level
  | .square => level * level

/-- R153: the checks on a pattern's fields. -/
def Pattern.valid (p : Pattern) : Bool :=
  (p.onTime ≤ 10000 && p.onTime % 10 == 0) && (p.offTime ≤ 10000 && p.offTime % 10 == 0)
    && !(p.onTime == 0 && p.offTime == 0)
    && p.onIntensity ≤ 255 && p.offIntensity ≤ 255 && p.fadeIn ≤ 5000 && p.fadeOut ≤ 5000

/-! ## Roles -/

/-- R16: the role of a bay's lamp. -/
def Bay.lampRole (y : Bay) : Option LampRole :=
  match y.state with
  | .testing _ => some .bayTesting
  | .hold _ _ => some .bayHold
  | .faulted _ => some .bayFault
  | .empty => none
  | .seated | .engaging _ | .engaged | .releasing _ =>
    match y.resultRole with
    | .none => none
    | .bayPass => some .bayPass
    | .bayReject => some .bayReject

/-- R103, R137: the role of a HELD position's lamp by its record. -/
def State.heldRole (x : Record) (s : State) : Option LampRole :=
  match x.state with
  | .reserved k slot =>
    match (s.string k).bind StringEntry.nextPick with
    | some n => if n = slot then some .nextPick else some .reserved
    | none => some .reserved
  | .rejected => some .shelfReject
  | .unshelved | .available | .absent => none

/-- R103: the role of a position's lamp. -/
def State.positionRole (p : PositionNo) (s : State) : Option LampRole :=
  match (s.position p).state with
  | .assigned _ => some .putaway
  | .held r => (s.record r).bind fun x => s.heldRole x
  | .unknown => some .unknownOccupant
  | .free | .vacated _ => none

/-- R155: the role of any lamp: a position's for lamps 0-239, a bay's for lamps 240-255. -/
def State.lampRole (l : LampNo) (s : State) : Option LampRole :=
  if h : l.val < 240 then s.positionRole ⟨l, h⟩
  else (s.bay ⟨l - 240, by omega⟩).lampRole

/-- A role's place in the role map (R154). -/
def LampRole.place : LampRole → Fin 10
  | .putaway => 0
  | .reserved => 1
  | .nextPick => 2
  | .shelfReject => 3
  | .unknownOccupant => 4
  | .bayTesting => 5
  | .bayPass => 6
  | .bayReject => 7
  | .bayFault => 8
  | .bayHold => 9

/-- R155: the pattern a lamp shows, absent when it shows nothing. -/
def State.lampShows (l : LampNo) (s : State) : Option PatternNo :=
  if s.lamps.dark then none
  else
    match s.lamps.overrides[l] with
    | some p => some p
    | none => (s.lampRole l).map fun role => s.lamps.roleMap[role.place]

/-- R150, R152: the level a lamp shows now, from its pattern's shared cycle. -/
def State.lampLevel (l : LampNo) (s : State) : Nat :=
  match s.lampShows l with
  | some p => s.lamps.patterns[p].level (s.now - s.lamps.epochs[p])
  | none => 0

/-- R151, R155: the drive a lamp shows now. -/
def State.lampDrive (l : LampNo) (s : State) : Nat :=
  match s.lampShows l with
  | some p => s.lamps.patterns[p].curve.drive (s.lampLevel l)
  | none => 0

/-- R152, R153: a pattern is written and its epoch set to the moment of the write. -/
def State.writePattern (p : PatternNo) (x : Pattern) (s : State) : State :=
  s.setLamps { s.lamps with patterns := s.lamps.patterns.set p x, epochs := s.lamps.epochs.set p s.now }

/-! ## The line outputs of a bay -/

/-- R1: a bay's load is on in TESTING during PULSE and DRAIN while the bay holds a grant: the current it may draw. -/
def State.loadCurrent (b : BayNo) (s : State) : Nat :=
  match s.program b with
  | some p =>
    match p.phase with
    | .pulseOn _ _ _ | .endWait _ _ | .drainOn _ _ => s.load.granted[b]
    | _ => 0
  | none => 0

/-- R1: the clamp command, which the contactor follows. -/
def State.clampCommand (b : BayNo) (s : State) : Bool := (s.bay b).state.clampCommanded

/-- R25: the tag reader request: from the entry to IDENT until the reader answers or the phase ends. -/
def State.tagRequest (b : BayNo) (s : State) : Bool :=
  match s.program b with
  | some p =>
    match p.phase with
    | .ident _ answered => !answered
    | _ => false
  | none => false

end Sys2Proof.Machine
end

