-- ==== Sys2Proof/Machine/Operands.lean ====
section
/-! DEFINITION. The fields of the requests: reading a body's bytes (R173), the length test (R178 step 3), and the range checks
that each owner's rule makes first. -/

namespace Sys2Proof.Machine

/-! ## Fields of a body (R173) -/

/-- The byte at an offset, as a number. -/
def u8 (body : List Byte) (i : Nat) : Nat := (body.getD i 0).toNat

/-- Two bytes, least significant first. -/
def u16 (body : List Byte) (i : Nat) : Nat := u8 body i + 256 * u8 body (i + 1)

/-- Four bytes, least significant first. -/
def u32 (body : List Byte) (i : Nat) : Nat := u16 body i + 65536 * u16 body (i + 2)

/-- One byte of two's complement. -/
def s8 (body : List Byte) (i : Nat) : Int := (body.getD i 0).toInt

/-- The 12 bytes of an identity. -/
def identityAt (body : List Byte) (i : Nat) : Identity :=
  #v[body.getD i 0, body.getD (i + 1) 0, body.getD (i + 2) 0, body.getD (i + 3) 0, body.getD (i + 4) 0,
     body.getD (i + 5) 0, body.getD (i + 6) 0, body.getD (i + 7) 0, body.getD (i + 8) 0, body.getD (i + 9) 0,
     body.getD (i + 10) 0, body.getD (i + 11) 0]

/-- A presence mark or a choice: 0 or 1, and neither for any other byte. -/
def markAt (body : List Byte) (i : Nat) : Option Bool :=
  if u8 body i = 0 then some false else if u8 body i = 1 then some true else none

/-- The bytes of an optional part of `size` bytes whose presence mark stands at `i`: none only where the mark says absent
(assumption 8). -/
def partSize (body : List Byte) (i size : Nat) : Nat := if u8 body i = 0 then 0 else size

/-- R178 step 3: the length test, and after it the checks that may fail with RANGE. -/
def sized {α : Type} (body : List Byte) (length : Nat) (fields : Option α) : Except Status α :=
  if body.length ≠ length then .error .length
  else
    match fields with
    | some x => .ok x
    | none => .error .range

/-- A value that passes a check. -/
def checked {α : Type} (ok : α → Bool) (x : α) : Option α := if ok x then some x else none

/-! ## Names (R173): a name is its place in its list -/

def gradeAt (body : List Byte) (i : Nat) : Option Grade :=
  match u8 body i with
  | 0 => some .a
  | 1 => some .b
  | 2 => some .c
  | 3 => some .r
  | _ => none

/-- A grade that a request may give: A, B or C (R102, R127). -/
def passGradeAt (body : List Byte) (i : Nat) : Option Grade := (gradeAt body i).bind (checked (· != .r))

def modeAt (body : List Byte) (i : Nat) : Option StringMode :=
  match u8 body i with
  | 0 => some .capacity
  | 1 => some .resistance
  | _ => none

def curveAt (body : List Byte) (i : Nat) : Option Curve :=
  match u8 body i with
  | 0 => some .linear
  | 1 => some .square
  | _ => none

/-! ## Requests with one number -/

/-- A request of one byte that names one of `n` things. -/
def numberField (n : Nat) (body : List Byte) : Except Status (Fin n) := sized body 1 (toFin n (u8 body 0))

/-- A request with no fields (R118, R179). -/
def noFields (body : List Byte) : Except Status Unit := sized body 0 (some ())

/-! ## RESET, settings, events -/

/-- R181: the kind of a RESET. -/
def resetFields (body : List Byte) : Except Status ResetKind :=
  sized body 1 (match u8 body 0 with
    | 0 => some .full
    | 1 => some .line
    | _ => none)

/-- R180: an item number. -/
def itemAt (body : List Byte) : Option Nat := checked (fun i => 1 ≤ i && i ≤ 17) (u8 body 0)

/-- R180: SETTING_READ's item. -/
def settingReadFields (body : List Byte) : Except Status Nat := sized body 1 (itemAt body)

/-- R180: SETTING_WRITE's item and value. -/
def settingWriteFields (body : List Byte) : Except Status (Nat × Nat) :=
  sized body 5 ((itemAt body).map fun i => (i, u32 body 1))

/-- R165: EVENTS_TAKE's count. -/
def eventsTakeFields (body : List Byte) : Except Status Nat := sized body 1 (checked (fun n => 1 ≤ n && n ≤ 16) (u8 body 0))

/-- R167, R173: EVENT_CLASSES's two sets of the five classes. -/
def eventClassesFields (body : List Byte) : Except Status (Byte × Byte) :=
  sized body 2 (checked (fun x => x.1.toNat < 32 && x.2.toNat < 32) (body.getD 0 0, body.getD 1 0))

/-! ## Profiles, plans, limits -/

/-- R64: PROFILE_LOAD's slot and profile, with its first four checks. -/
def profileLoadFields (body : List Byte) : Except Status (SlotNo × Profile) :=
  sized body 44 do
    let slot ← toFin 4 (u8 body 0)
    let b (k : Nat) : Nat := u16 body (1 + 2 * k)
    let f ← checked Profile.valid
      ⟨#v[b 0, b 1, b 2, b 3, b 4, b 5, b 6, b 7, b 8, b 9, b 10, b 11, b 12, b 13, b 14, b 15, b 16, b 17, b 18, b 19, b 20],
       u8 body 43⟩
    some (slot, f)

/-- R21: PLAN_LOAD's slot and plan, with its range checks. -/
def planLoadFields (body : List Byte) : Except Status (SlotNo × Plan) :=
  sized body 25 do
    let slot ← toFin 4 (u8 body 0)
    let drain ← markAt body 11
    let p ← checked Plan.valid
      { restTime := u16 body 1
        pulseCurrent := u16 body 3
        pulseDuration := u16 body 5
        recoveryTime := u32 body 7
        drain := drain
        drainCurrent := u16 body 12
        drainDepth := u16 body 14
        floorVoltage := u16 body 16
        timeLimit := u16 body 18
        settleWindow := u16 body 20
        stabilityBand := u8 body 22
        windowLow := s8 body 23
        windowHigh := u8 body 24 }
    some (slot, p)

/-- R76: GRADE_LIMITS's optional set. -/
def gradeLimitsFields (body : List Byte) : Except Status (Option GradeLimits) :=
  sized body (1 + partSize body 0 12) do
    if ← markAt body 0 then
      let l ← checked GradeLimits.valid
        { sohA := u16 body 1, sohB := u16 body 3, sohC := u16 body 5
          rrA := u16 body 7, rrB := u16 body 9, rrC := u16 body 11 }
      some (some l)
    else some none

/-! ## Bays -/

/-- R7: BAY_RUN's request fields, the bay first, with its first check. -/
def bayRunFields (body : List Byte) : Except Status RunRequest :=
  let id := partSize body 10 12
  sized body (12 + id) do
    let bay ← toFin 16 (u8 body 0)
    let plan ← toFin 4 (u8 body 1)
    let profile ← toFin 4 (u8 body 2)
    let cells ← checked (fun n => 1 ≤ n && n ≤ 24) (u8 body 3)
    let nameplate ← checked (fun n => 1000 ≤ n && n ≤ 1000000) (u32 body 4)
    let nominal ← checked (fun n => 1 ≤ n && n ≤ 65535) (u16 body 8)
    let given ← markAt body 10
    let auto ← markAt body (11 + id)
    some { bay := bay, plan := plan, profile := profile, cells := cells, nameplate := nameplate, nominal := nominal,
           expected := if given then some (identityAt body 11) else none, autoRelease := auto }

/-! ## The pool -/

/-- The record states a POOL_LIST filter names (R99): bit k for the k-th of R173's list. -/
def RecordState.bit : RecordState → Nat
  | .unshelved => 0
  | .available => 1
  | .reserved _ _ => 2
  | .absent => 3
  | .rejected => 4

/-- R99: POOL_LIST's filter and start index. -/
def poolListFields (body : List Byte) : Except Status (Byte × RecordNo) :=
  sized body 2 do
    let start ← toFin 240 (u8 body 1)
    let filter ← checked (fun f : Byte => f.toNat ≠ 0 && f.toNat < 32) (body.getD 0 0)
    some (filter, start)

/-- R101: POOL_PLACE's record and position. -/
def poolPlaceFields (body : List Byte) : Except Status (RecordNo × PositionNo) :=
  sized body 2 do
    let r ← toFin 240 (u8 body 0)
    let p ← toFin 240 (u8 body 1)
    some (r, p)

/-- The facts of POOL_IMPORT (R102). -/
structure ImportFacts where
  position : PositionNo
  identity : Option Identity
  profile : SlotNo
  cells : Nat
  nameplate : Nat
  grade : Grade
  capacity : Option Capacity
  resistance : Nat
  ratio : Nat
  flags : Flags
  gradedTime : Seconds
  restVoltage : Nat
  deriving DecidableEq, Repr

/-- R102: capacity and state of health, both present or both absent. -/
def importCapacity (body : List Byte) (i : Nat) : Option (Option Capacity) := do
  let hasCapacity ← markAt body i
  let j := i + 1 + partSize body i 4
  let hasHealth ← markAt body j
  if hasCapacity && hasHealth then
    let c ← checked (fun n => n ≤ 1000000) (u32 body (i + 1))
    let h ← checked (fun n => n ≤ 1200) (u16 body (j + 1))
    some (some ⟨c, h⟩)
  else if !hasCapacity && !hasHealth then some none
  else none

/-- R102: the flags a POOL_IMPORT may give, SPARSE, UNSETTLED and DOWNGRADED, in a set of the seven flags (R173); IMPORTED is
set, and CAP_ABSENT exactly where the capacity is absent (assumption 9). -/
def importFlags (flags : Byte) (capacity : Option Capacity) : Flags where
  capAbsent := capacity.isNone
  sparse := flags.getLsbD 1
  unsettled := flags.getLsbD 2
  downgraded := flags.getLsbD 4
  imported := true

/-- R102: POOL_IMPORT's fields with its first check. -/
def poolImportFields (body : List Byte) : Except Status ImportFacts :=
  let id := partSize body 1 12
  let i := 2 + id
  let cap := partSize body (i + 7) 4
  let soh := partSize body (i + 8 + cap) 2
  let j := i + 9 + cap + soh
  sized body (j + 13) do
    let position ← toFin 240 (u8 body 0)
    let given ← markAt body 1
    let profile ← toFin 4 (u8 body i)
    let cells ← checked (fun n => 1 ≤ n && n ≤ 24) (u8 body (i + 1))
    let nameplate ← checked (fun n => 1000 ≤ n && n ≤ 1000000) (u32 body (i + 2))
    let grade ← passGradeAt body (i + 6)
    let capacity ← importCapacity body (i + 7)
    let resistance := u16 body j
    let ratio ← checked (fun n => n ≤ 9999) (u16 body (j + 2))
    let flags ← checked (fun f : Byte => f.toNat < 128) (body.getD (j + 4) 0)
    let voltage ← checked (fun n => n ≤ 120000) (u32 body (j + 9))
    checked (fun x => x.grade != .a || x.capacity.isSome)
      { position := position, identity := if given then some (identityAt body 2) else none, profile := profile
        cells := cells, nameplate := nameplate, grade := grade, capacity := capacity, resistance := resistance
        ratio := ratio, flags := importFlags flags capacity, gradedTime := u32 body (j + 5), restVoltage := voltage }

/-! ## Strings -/

/-- R127: STRING_BUILD's fields with its first check. -/
def stringBuildFields (body : List Byte) : Except Status StringRequest :=
  sized body 13 do
    let profile ← toFin 4 (u8 body 0)
    let cells ← checked (fun n => 1 ≤ n && n ≤ 24) (u8 body 1)
    let length ← checked (fun n => 2 ≤ n && n ≤ 20) (u8 body 2)
    let mode ← modeAt body 3
    let capacity ← checked (fun n => n ≤ 100000) (u32 body 4)
    let resistance ← checked (fun n => n ≤ 10000) (u16 body 8)
    let voltage ← checked (fun n => n ≤ 5000) (u16 body 10)
    let grade ← passGradeAt body 12
    some { profile := profile, cells := cells, length := length, mode := mode, capacityTolerance := capacity
           resistanceTolerance := resistance, voltageTolerance := voltage, minGrade := grade }

/-! ## Lamps -/

/-- R153: LAMP_PATTERN's number and optional fields. -/
def lampPatternFields (body : List Byte) : Except Status (PatternNo × Option Pattern) :=
  sized body (2 + partSize body 1 11) do
    let n ← toFin 8 (u8 body 0)
    if ← markAt body 1 then
      let curve ← curveAt body 12
      let p ← checked Pattern.valid
        { onTime := u16 body 2, offTime := u16 body 4, onIntensity := u8 body 6, offIntensity := u8 body 7
          fadeIn := u16 body 8, fadeOut := u16 body 10, curve := curve }
      some (n, some p)
    else some (n, none)

/-- R154: LAMP_ROLES's optional map. -/
def lampRolesFields (body : List Byte) : Except Status (Option (Vector PatternNo 10)) :=
  sized body (1 + partSize body 0 10) do
    if ← markAt body 0 then
      let a ← toFin 8 (u8 body 1)
      let b ← toFin 8 (u8 body 2)
      let c ← toFin 8 (u8 body 3)
      let d ← toFin 8 (u8 body 4)
      let e ← toFin 8 (u8 body 5)
      let f ← toFin 8 (u8 body 6)
      let g ← toFin 8 (u8 body 7)
      let h ← toFin 8 (u8 body 8)
      let i ← toFin 8 (u8 body 9)
      let j ← toFin 8 (u8 body 10)
      some (some #v[a, b, c, d, e, f, g, h, i, j])
    else some none

/-- R156: LAMP_OVERRIDE's lamp and optional pattern. -/
def lampOverrideFields (body : List Byte) : Except Status (LampNo × Option PatternNo) :=
  sized body (2 + partSize body 1 1) do
    let lamp ← toFin 256 (u8 body 0)
    if ← markAt body 1 then
      let p ← toFin 8 (u8 body 2)
      some (lamp, some p)
    else some (lamp, none)

/-- R157, R173: LAMP_RELEASE's lamp; 256 stands for all, and is given here as none. -/
def lampReleaseFields (body : List Byte) : Except Status (Option LampNo) :=
  sized body 2 (if u16 body 0 = 256 then some none else (toFin 256 (u16 body 0)).map some)

end Sys2Proof.Machine
end

