-- ==== Sys2Proof/Machine/BayRequests.lean ====
section
/-! DEFINITION. What the bay requests do (R5, R7-R9, R17), as handlers of R178 step 4. -/

namespace Sys2Proof.Machine

/-- R5: a SEATED bay's clamp closes and the engage-settle timer runs. -/
def handleBayEngage (b : BayNo) : Handler := fun s =>
  match (s.bay b).state with
  | .seated => (s.setBayState b (.engaging (s.now + s.settings.engageSettle)), .plain .ok)
  | _ => refuse .state s

/-- R7, R23, R25: the last result and result role are cleared, and a program starts in IDENT with its read timer. -/
def State.startProgram (q : RunRequest) (s : State) : State :=
  s.setBay q.bay { s.bay q.bay with
    state := .testing { request := q, phase := .ident (s.now + Config.readTime) false }
    lastResult := none
    resultRole := .none }

/-- R7: the checks after the ranges, in order. -/
def handleBayRun (q : RunRequest) : Handler := fun s =>
  if (s.bay q.bay).state ≠ .engaged then refuse .state s
  else if s.plans[q.plan].isNone then refuse .absent s
  else if s.profiles[q.profile].isNone then refuse .absent s
  else (s.startProgram q, .plain .accepted)

/-- R8: the pulse's load-on sub-states, in which an abort is marked pending (R23, R32). -/
def Phase.pulsing : Phase → Bool
  | .pulseOn _ _ _ | .endWait _ _ => true
  | _ => false

/-- R8: the action of an abort by phase. -/
def handleBayAbort (b : BayNo) : Handler := fun s =>
  match s.program b with
  | some p =>
    if p.phase.pulsing then (s.setProgram b { p with abortPending := true }, .plain .accepted)
    else (s.endProgram b p .aborted, .plain .ok)
  | none => refuse .state s

/-- R9: a HOLD bay leaves the hold queue and discards its result before its clamp opens. -/
def State.discardHold (b : BayNo) (g : GradedResult) (s : State) : State :=
  ((s.setHoldQueue (s.holdQueue.filter (· != b))).setBay b { s.bay b with resultRole := .none }).raise
    (.resultDiscarded b g.grade)

/-- R9: the action of a release by bay state. -/
def handleBayRelease (b : BayNo) : Handler := fun s =>
  match (s.bay b).state with
  | .engaged | .faulted _ => (s.openClamp b, .plain .ok)
  | .hold _ g => ((s.discardHold b g).openClamp b, .plain .ok)
  | _ => refuse .state s

/-- R23: the phase and sub-state a program reports. -/
def Phase.report : Phase → PhaseName × Option SubState
  | .ident _ _ => (.ident, none)
  | .rest0 _ => (.rest0, none)
  | .coolWait _ => (.pulse, some .coolWait)
  | .pulseWait => (.pulse, some .loadWait)
  | .pulseOn _ _ _ => (.pulse, some .loadOn)
  | .endWait _ _ => (.pulse, some .endWait)
  | .recover _ => (.recover, none)
  | .drainWait => (.drain, some .loadWait)
  | .drainOn _ _ => (.drain, some .loadOn)
  | .settle _ => (.settle, none)

/-- What a program reports of where it stands. -/
def Program.report (p : Program) : ProgramReport := ⟨p.phase.report.1, p.phase.report.2, p.abortPending⟩

/-- R17: the items of a last result. -/
def LastResult.report (x : LastResult) : ResultReport := ⟨x.outcome, x.grade, x.flags, x.record, x.position, x.endTime⟩

/-- R17: the whole state of a bay. The identity is that of the running program, or of the last one. -/
def Bay.report (y : Bay) : BayReport where
  state := y.state.name
  program := match y.state with
    | .testing p => some p.report
    | _ => none
  presence := y.presence.debounced
  clampClosed := y.clampClosed.debounced
  cause := match y.state with
    | .faulted c => some c
    | _ => none
  request := match y.state with
    | .testing p => some p.request
    | .hold q _ => some q
    | _ => none
  identity := match y.state with
    | .testing p => p.identity
    | _ => y.lastResult.bind (·.identity)
  heldGrade := match y.state with
    | .hold _ g => some g.grade
    | _ => none
  lastResult := y.lastResult.map LastResult.report
  resultRole := y.resultRole

/-- R17. -/
def handleBayQuery (b : BayNo) : Handler := fun s => (s, .bay (s.bay b).report)

end Sys2Proof.Machine
end

