-- ==== Sys2Proof/Machine/LampRequests.lean ====
section
/-! DEFINITION. What the lamp requests do (R153, R154, R156, R157), as handlers of R178 step 4. -/

namespace Sys2Proof.Machine

/-- R153. -/
def handleLampPattern (x : PatternNo × Option Pattern) : Handler := fun s =>
  match x.2 with
  | none => (s, .pattern s.lamps.patterns[x.1])
  | some p => (s.writePattern x.1 p, .pattern p)

/-- R154. -/
def handleLampRoles (x : Option (Vector PatternNo 10)) : Handler := fun s =>
  match x with
  | none => (s, .roleMap s.lamps.roleMap)
  | some m => (s.setLamps { s.lamps with roleMap := m }, .roleMap m)

/-- An override of one lamp is set or removed (R156, R157). -/
def State.setOverride (l : LampNo) (x : Option PatternNo) (s : State) : State :=
  s.setLamps { s.lamps with overrides := s.lamps.overrides.set l x }

/-- R156: what the read form reports of a lamp. -/
def State.lampReport (l : LampNo) (s : State) : LampReport :=
  ⟨s.lampRole l, s.lamps.overrides[l], s.lampShows l, s.lampLevel l, s.lampDrive l⟩

/-- R156. -/
def handleLampOverride (x : LampNo × Option PatternNo) : Handler := fun s =>
  match x.2 with
  | none => (s, .lamp (s.lampReport x.1))
  | some p => (s.setOverride x.1 (some p), .overridden x.1 s.lamps.overrides[x.1])

/-- R157: the overrides of all lamps are removed. -/
def State.clearOverrides (s : State) : State := s.setLamps { s.lamps with overrides := Vector.replicate 256 none }

/-- R157. -/
def handleLampRelease (x : Option LampNo) : Handler := fun s =>
  match x with
  | none => (s.clearOverrides, .released (s.lamps.overrides.toList.countP Option.isSome))
  | some l => (s.setOverride l none, .released (if s.lamps.overrides[l].isSome then 1 else 0))

end Sys2Proof.Machine
end

