-- ==== Sys2Proof/Machine/PoolRequests.lean ====
section
/-! DEFINITION. What the pool and position requests do (R84, R98-R102), as handlers of R178 step 4. -/

namespace Sys2Proof.Machine

/-- R98. -/
def handlePoolRead (r : RecordNo) : Handler := fun s =>
  match s.record r with
  | some x => (s, .record x)
  | none => refuse .absent s

/-- R99: the records at or above an index whose state is in the filter, in ascending index. -/
def State.matching (filter : Byte) (start : RecordNo) (s : State) : List (RecordNo × Record) :=
  (List.finRange 240).filterMap fun r =>
    if r < start then none
    else
      match s.record r with
      | some x => if filter.getLsbD x.state.bit then some (r, x) else none
      | none => none

/-- R99: at most twelve of them; the next index follows the twelfth when a thirteenth exists. -/
def handlePoolList (x : Byte × RecordNo) : Handler := fun s =>
  let found := s.matching x.1 x.2
  let next :=
    if Config.listPlaces < found.length then (found[Config.listPlaces - 1]?).map fun y => y.1.val + 1 else none
  (s, .recordList ((found.take Config.listPlaces).map (·.2)) next)

/-- The name of a position state (R173). -/
def PositionState.name : PositionState → PositionStateName
  | .free => .free
  | .assigned _ => .assigned
  | .held _ => .held
  | .vacated _ => .vacated
  | .unknown => .unknown

/-- The record a position is bound to (R83). -/
def PositionState.bound : PositionState → Option RecordNo
  | .assigned r | .held r | .vacated r => some r
  | .free | .unknown => none

/-- R84. -/
def handlePositionRead (p : PositionNo) : Handler := fun s =>
  (s, .position ⟨(s.position p).state.name, (s.position p).state.bound, (s.position p).present,
    (s.position p).pendingChange, s.positionRole p⟩)

/-- R100: the position of a deleted record: UNKNOWN with its module on the rack; FREE without, and then perhaps for the hold
queue. -/
def State.deleteFrom (r : RecordNo) (x : Record) (s : State) : State :=
  match x.state with
  | .available | .rejected => (s.deleteRecord r).setPositionState x.position .unknown
  | .unshelved | .absent | .reserved _ _ => ((s.deleteRecord r).setPositionState x.position .free).assignHeld

/-- R100. -/
def handlePoolDelete (r : RecordNo) : Handler := fun s =>
  match s.record r with
  | none => refuse .absent s
  | some x =>
    match x.state with
    | .reserved _ _ => refuse .inUse s
    | _ =>
      let t := s.deleteFrom r x
      (t, .deleted x.position (t.position x.position).state.name)

/-- R101: an UNSHELVED record is shelved at an UNKNOWN position; the retries run, and its old position is freed. -/
def State.place (r : RecordNo) (x : Record) (p : PositionNo) (s : State) : State :=
  (((s.shelve r p).setPositionState x.position .free).candidateNotice).assignHeld

/-- R101. -/
def handlePoolPlace (y : RecordNo × PositionNo) : Handler := fun s =>
  match s.record y.1 with
  | none => refuse .absent s
  | some x =>
    if x.state = .unshelved ∧ (s.position y.2).state = .unknown then (s.place y.1 x y.2, .plain .ok)
    else refuse .state s

/-- R102: the record an import makes. -/
def ImportFacts.record (f : ImportFacts) (state : RecordState) (time : Seconds) : Record where
  state := state
  position := f.position
  identity := f.identity
  profile := f.profile
  cells := f.cells
  nameplate := f.nameplate
  grade := f.grade
  capacity := f.capacity
  resistance := f.resistance
  ratio := f.ratio
  flags := f.flags
  origin := .imported
  gradedTime := f.gradedTime
  restVoltage := f.restVoltage
  restTime := time
  sampled := false
  baseline := none
  drift := none
  stale := false

/-- R102. -/
def handlePoolImport (f : ImportFacts) : Handler := fun s =>
  match s.freeRecord with
  | none => refuse .full s
  | some r =>
    match (s.position f.position).state with
    | .free => (s.bindRecord r f.position (f.record .unshelved s.seconds), .imported r .assigned)
    | .unknown =>
      (((s.setRecord r (some (f.record .available s.seconds))).setPositionState f.position (.held r)).candidateNotice,
        .imported r .held)
    | _ => refuse .inUse s

end Sys2Proof.Machine
end

