-- ==== Sys2Proof/Machine/Requests.lean ====
section
/-! DEFINITION. What the owners of the part-wide and grading requests do: STATUS, settings, events, watch, profiles, plans and
grade limits (R21, R22, R64, R65, R76, R118, R165, R167, R179, R180), as handlers of R178 step 4. -/

namespace Sys2Proof.Machine

/-! ## STATUS -/

/-- The name of a string entry's state; an entry not in the table is FREE (R124). -/
def stringName : Option StringEntry → StringStateName
  | none => .free
  | some x =>
    match x.state with
    | .waiting => .waiting
    | .picking => .picking
    | .blocked => .blocked
    | .complete => .complete

/-- R179: the summary; family 0 is Nomirel (R173). -/
def State.statusReport (s : State) : StatusReport where
  family := 0
  revision := 1
  seconds := s.seconds
  watch := s.scanner.mode == .watch
  bays := (List.finRange 16).map fun b => (s.bay b).state.name
  records := (List.finRange 240).countP fun r => (s.record r).isSome
  strings := (List.finRange 6).map fun k => stringName (s.string k)
  depth := s.events.queue.length
  overflow := s.events.overflow

def handleStatus (_ : Unit) : Handler := fun s => (s, .partStatus s.statusReport)

/-! ## RESET -/

/-- R181: the reset hold is set; the reset waits for its reply to be sent. -/
def handleReset (kind : ResetKind) : Handler := fun s =>
  (s.setLink { s.link with resetHold := some kind }, .plain .ok)

/-! ## Settings -/

/-- R180: the value of an item as a number; a mode or function is 0 for its first name and 1 for its second. -/
def Settings.read (x : Settings) : Nat → Nat
  | 1 => x.debounce
  | 2 => x.engageSettle
  | 3 => x.releaseGuard
  | 4 => x.busBudget
  | 5 => x.startWindow
  | 6 => x.derate
  | 7 => x.hysteresis
  | 8 => x.shutdown
  | 9 => x.rowDwell
  | 10 => x.sampleInterval
  | 11 => x.freshness
  | 12 => x.watchInterval
  | 13 => x.minObservation
  | 14 => x.downgrade
  | 15 => x.reject
  | 16 => if x.attention = .level then 0 else 1
  | _ => if x.resetLine = .full then 0 else 1

/-- R2-R182: whether a value lies in its item's range and keeps the constraints between items (R59, R116, R117). -/
def Settings.permits (x : Settings) (item v : Nat) : Bool :=
  match item with
  | 1 => 5 ≤ v && v ≤ 200
  | 2 => 100 ≤ v && v ≤ 2000
  | 3 => 500 ≤ v && v ≤ 10000
  | 4 => 1000 ≤ v && v ≤ 60000
  | 5 => 500 ≤ v && v ≤ 20000
  | 6 => 60 ≤ v && v ≤ 110 && v < x.shutdown
  | 7 => 2 ≤ v && v ≤ 20
  | 8 => 70 ≤ v && v ≤ 120 && x.derate < v
  | 9 => 5 ≤ v && v ≤ 100
  | 10 => 60 ≤ v && v ≤ 3600 && 2 * v ≤ x.freshness
  | 11 => 120 ≤ v && v ≤ 14400 && 2 * x.sampleInterval ≤ v
  | 12 => 300 ≤ v && v ≤ 7200
  | 13 => 3600 ≤ v && v ≤ 604800
  | 14 => 100 ≤ v && v ≤ 50000 && v < x.reject
  | 15 => 101 ≤ v && v ≤ 65535 && x.downgrade < v
  | _ => v ≤ 1

/-- R49, R51: whether what the part holds locks an item against the value. -/
def State.locks (item v : Nat) (s : State) : Bool :=
  match item with
  | 4 => v < s.load.grantedSum
  | 5 => s.load.granted.toList.any (· != 0) || !s.load.queue.isEmpty || !s.load.starts.isEmpty
  | _ => false

/-- R180: a value taken into use, with the effects of its owner's rule: an examination for the bus budget (R49), and the
attention output for its mode (R170). -/
def State.takeSetting (item v : Nat) (s : State) : State :=
  let put (x : Settings) : State := s.setSettings x
  match item with
  | 1 => put { s.settings with debounce := v }
  | 2 => put { s.settings with engageSettle := v }
  | 3 => put { s.settings with releaseGuard := v }
  | 4 => (put { s.settings with busBudget := v }).examine
  | 5 => put { s.settings with startWindow := v }
  | 6 => put { s.settings with derate := v }
  | 7 => put { s.settings with hysteresis := v }
  | 8 => put { s.settings with shutdown := v }
  | 9 => put { s.settings with rowDwell := v }
  | 10 => put { s.settings with sampleInterval := v }
  | 11 => put { s.settings with freshness := v }
  | 12 => put { s.settings with watchInterval := v }
  | 13 => put { s.settings with minObservation := v }
  | 14 => put { s.settings with downgrade := v }
  | 15 => put { s.settings with reject := v }
  | 16 => s.writeAttention (if v = 0 then .level else .pulse)
  | _ => put { s.settings with resetLine := if v = 0 then .full else .line }

/-- R180: RANGE first, then IN_USE, and then the value is taken. -/
def handleSettingWrite (x : Nat × Nat) : Handler := fun s =>
  if !s.settings.permits x.1 x.2 then refuse .range s
  else if s.locks x.1 x.2 then refuse .inUse s
  else
    let t := s.takeSetting x.1 x.2
    (t, .setting x.1 (t.settings.read x.1))

def handleSettingRead (item : Nat) : Handler := fun s => (s, .setting item (s.settings.read item))

/-! ## Events -/

/-- R165. -/
def handleEventsTake (count : Nat) : Handler := fun s =>
  let t := s.takeEvents count
  (t, .eventsTaken (s.events.queue.take count) s.events.overflow t.events.queue.length)

/-- R167: bit k of a list is the k-th class of R173's list. -/
def ClassEnables.after (e : ClassEnables) (enable disable : Byte) : ClassEnables where
  bay := enableAfter (enable.getLsbD 0) (disable.getLsbD 0) e.bay
  load := enableAfter (enable.getLsbD 1) (disable.getLsbD 1) e.load
  pool := enableAfter (enable.getLsbD 2) (disable.getLsbD 2) e.pool
  string := enableAfter (enable.getLsbD 3) (disable.getLsbD 3) e.string
  system := enableAfter (enable.getLsbD 4) (disable.getLsbD 4) e.system

def handleEventClasses (x : Byte × Byte) : Handler := fun s =>
  (s.setEvents { s.events with enables := s.events.enables.after x.1 x.2 }, .classes (s.events.enables.after x.1 x.2))

/-! ## Shelf watch -/

/-- R118. -/
def handleWatchEnter (_ : Unit) : Handler := fun s =>
  if (List.finRange 16).all fun b => (s.bay b).state.quiet then (s.enterWatch, .plain .ok) else refuse .state s

/-! ## Profiles, plans, grade limits -/

/-- R64: the fifth check, and the write. -/
def handleProfileLoad (x : SlotNo × Profile) : Handler := fun s =>
  if s.profileInUse x.1 then refuse .inUse s else (s.setProfiles (s.profiles.set x.1 (some x.2)), .plain .ok)

/-- R65. -/
def handleProfileRead (k : SlotNo) : Handler := fun s =>
  match s.profiles[k] with
  | some f => (s, .profile f)
  | none => refuse .absent s

/-- R21: the check that no TESTING bay runs the slot, and the write. -/
def handlePlanLoad (x : SlotNo × Plan) : Handler := fun s =>
  if s.planInUse x.1 then refuse .inUse s else (s.setPlans (s.plans.set x.1 (some x.2)), .plain .ok)

/-- R22. -/
def handlePlanRead (k : SlotNo) : Handler := fun s =>
  match s.plans[k] with
  | some p => (s, .plan p)
  | none => refuse .absent s

/-- R76: the read form with the set absent, the write form with it present. -/
def handleGradeLimits (x : Option GradeLimits) : Handler := fun s =>
  match x with
  | none => (s, .limits s.limits)
  | some l => (s.setLimits l, .limits l)

end Sys2Proof.Machine
end

