-- ==== Sys2Proof/Machine/StringRequests.lean ====
section
/-! DEFINITION. What the string requests do (R127, R143-R145), as handlers of R178 step 4. -/

namespace Sys2Proof.Machine

/-- R127, R145: a slot list in a reply, with the positions of its RESERVED slots' records. -/
def State.slotReports (slots : List Slot) (s : State) : List SlotReport :=
  slots.mapIdx fun i x =>
    ⟨i, x, match x with
      | .reserved r _ => (s.record r).map (·.position)
      | _ => none⟩

/-- R127: the lowest-numbered FREE entry. -/
def State.freeString (s : State) : Option StringNo := (List.finRange 6).find? fun k => (s.string k).isNone

/-- R127, R132: a string entry as STRING_BUILD writes it, before its search. -/
def StringRequest.entry (q : StringRequest) (time : Seconds) : StringEntry := ⟨.waiting, q, time, []⟩

/-- R127: the entry is taken and searched at once. -/
def State.buildString (k : StringNo) (q : StringRequest) (s : State) : State :=
  (s.setString k (some (q.entry s.seconds))).searchString k (q.entry s.seconds)

/-- R127. -/
def handleStringBuild (q : StringRequest) : Handler := fun s =>
  match s.freeString with
  | none => refuse .full s
  | some k =>
    let t := s.buildString k q
    match t.string k with
    | some x => (t, .stringBuilt k x.state (t.slotReports x.slots))
    | none => (t, .plain .ok)

/-- R145: what a string entry reports. -/
def State.stringReport (x : StringEntry) (s : State) : StringReport where
  state := x.state
  request := x.request
  created := x.created
  slots := s.slotReports x.slots
  pickedCount := pickedCount x.slots
  vacantCount := vacantCount x.slots
  nextPick := x.nextPick

/-- R145. -/
def handleStringRead (k : StringNo) : Handler := fun s => (s, .string ((s.string k).map fun x => s.stringReport x))

/-- R143: the PICKED slots of a string. -/
def State.pickedReports (slots : List Slot) (s : State) : List SlotReport :=
  (s.slotReports slots).filter fun x =>
    match x.slot with
    | .picked .. => true
    | _ => false

/-- R143: every reservation is released, the entry is FREE, and one round of retries follows (R133). -/
def State.cancelString (k : StringNo) (x : StringEntry) (s : State) : State :=
  ((s.releaseSlots x.slots).setString k none).retryRound

/-- R143. -/
def handleStringCancel (k : StringNo) : Handler := fun s =>
  match s.string k with
  | none => refuse .state s
  | some x => (s.cancelString k x, .cancelled x.state (s.pickedReports x.slots))

/-- R144. -/
def handleStringClose (k : StringNo) : Handler := fun s =>
  match s.string k with
  | none => refuse .state s
  | some x =>
    if x.state = .complete then (s.setString k none, .closed x.request x.created (s.slotReports x.slots))
    else refuse .state s

end Sys2Proof.Machine
end

