-- ==== Sys2Proof/Machine/LinkCommands.lean ====
section
/-! DEFINITION. The meanings of the link's commands: every request, the frames rejected at reception, the sync byte, and the end
of a reply (R172-R181). -/

namespace Sys2Proof.Machine

/-! ## The handler of each message type (R178 steps 3 and 4) -/

def statusHandler (body : List Byte) : Handler := withFields (noFields body) handleStatus

def resetHandler (body : List Byte) : Handler := withFields (resetFields body) handleReset

def settingWriteHandler (body : List Byte) : Handler := withFields (settingWriteFields body) handleSettingWrite

def settingReadHandler (body : List Byte) : Handler := withFields (settingReadFields body) handleSettingRead

def eventsTakeHandler (body : List Byte) : Handler := withFields (eventsTakeFields body) handleEventsTake

def eventClassesHandler (body : List Byte) : Handler := withFields (eventClassesFields body) handleEventClasses

def watchEnterHandler (body : List Byte) : Handler := withFields (noFields body) handleWatchEnter

def profileLoadHandler (body : List Byte) : Handler := withFields (profileLoadFields body) handleProfileLoad

def profileReadHandler (body : List Byte) : Handler := withFields (numberField 4 body) handleProfileRead

def planLoadHandler (body : List Byte) : Handler := withFields (planLoadFields body) handlePlanLoad

def planReadHandler (body : List Byte) : Handler := withFields (numberField 4 body) handlePlanRead

def gradeLimitsHandler (body : List Byte) : Handler := withFields (gradeLimitsFields body) handleGradeLimits

def bayEngageHandler (body : List Byte) : Handler := withFields (numberField 16 body) handleBayEngage

def bayRunHandler (body : List Byte) : Handler := withFields (bayRunFields body) handleBayRun

def bayAbortHandler (body : List Byte) : Handler := withFields (numberField 16 body) handleBayAbort

def bayReleaseHandler (body : List Byte) : Handler := withFields (numberField 16 body) handleBayRelease

def bayQueryHandler (body : List Byte) : Handler := withFields (numberField 16 body) handleBayQuery

def poolReadHandler (body : List Byte) : Handler := withFields (numberField 240 body) handlePoolRead

def poolListHandler (body : List Byte) : Handler := withFields (poolListFields body) handlePoolList

def poolImportHandler (body : List Byte) : Handler := withFields (poolImportFields body) handlePoolImport

def poolDeleteHandler (body : List Byte) : Handler := withFields (numberField 240 body) handlePoolDelete

def poolPlaceHandler (body : List Byte) : Handler := withFields (poolPlaceFields body) handlePoolPlace

def positionReadHandler (body : List Byte) : Handler := withFields (numberField 240 body) handlePositionRead

def stringBuildHandler (body : List Byte) : Handler := withFields (stringBuildFields body) handleStringBuild

def stringReadHandler (body : List Byte) : Handler := withFields (numberField 6 body) handleStringRead

def stringCancelHandler (body : List Byte) : Handler := withFields (numberField 6 body) handleStringCancel

def stringCloseHandler (body : List Byte) : Handler := withFields (numberField 6 body) handleStringClose

def lampPatternHandler (body : List Byte) : Handler := withFields (lampPatternFields body) handleLampPattern

def lampRolesHandler (body : List Byte) : Handler := withFields (lampRolesFields body) handleLampRoles

def lampOverrideHandler (body : List Byte) : Handler := withFields (lampOverrideFields body) handleLampOverride

def lampReleaseHandler (body : List Byte) : Handler := withFields (lampReleaseFields body) handleLampRelease

/-- R178: the dispatcher's choice by message type; a type outside the table is answered with UNKNOWN_TYPE (step 2). -/
def handlerOf (type : Byte) (body : List Byte) : Handler :=
  match type.toNat with
  | 0x01 => statusHandler body
  | 0x02 => resetHandler body
  | 0x03 => settingWriteHandler body
  | 0x04 => settingReadHandler body
  | 0x05 => eventsTakeHandler body
  | 0x06 => eventClassesHandler body
  | 0x07 => watchEnterHandler body
  | 0x10 => profileLoadHandler body
  | 0x11 => profileReadHandler body
  | 0x12 => planLoadHandler body
  | 0x13 => planReadHandler body
  | 0x14 => gradeLimitsHandler body
  | 0x20 => bayEngageHandler body
  | 0x21 => bayRunHandler body
  | 0x22 => bayAbortHandler body
  | 0x23 => bayReleaseHandler body
  | 0x24 => bayQueryHandler body
  | 0x30 => poolReadHandler body
  | 0x31 => poolListHandler body
  | 0x32 => poolImportHandler body
  | 0x33 => poolDeleteHandler body
  | 0x34 => poolPlaceHandler body
  | 0x35 => positionReadHandler body
  | 0x40 => stringBuildHandler body
  | 0x41 => stringReadHandler body
  | 0x42 => stringCancelHandler body
  | 0x43 => stringCloseHandler body
  | 0x50 => lampPatternHandler body
  | 0x51 => lampRolesHandler body
  | 0x52 => lampOverrideHandler body
  | 0x53 => lampReleaseHandler body
  | _ => refuse .unknownType

/-! ## Part-wide requests -/

/-- STATUS (R179). -/
def execStatus (tag : Byte) (body : List Byte) (s : State) : Host.Outcome State Fault Refusal :=
  .next (s.request 0x01 tag (statusHandler body))

/-- RESET of kind FULL (R181). -/
def execResetFull (tag : Byte) (body : List Byte) (s : State) : Host.Outcome State Fault Refusal :=
  .next (s.request 0x02 tag (resetHandler body))

/-- RESET of kind LINE (R181). -/
def execResetLine (tag : Byte) (body : List Byte) (s : State) : Host.Outcome State Fault Refusal :=
  .next (s.request 0x02 tag (resetHandler body))

/-- SETTING_WRITE (R180). -/
def execSettingWrite (tag : Byte) (body : List Byte) (s : State) : Host.Outcome State Fault Refusal :=
  .next (s.request 0x03 tag (settingWriteHandler body))

/-- SETTING_READ (R180). -/
def execSettingRead (tag : Byte) (body : List Byte) (s : State) : Host.Outcome State Fault Refusal :=
  .next (s.request 0x04 tag (settingReadHandler body))

/-- EVENTS_TAKE (R165). -/
def execEventsTake (tag : Byte) (body : List Byte) (s : State) : Host.Outcome State Fault Refusal :=
  .next (s.request 0x05 tag (eventsTakeHandler body))

/-- EVENT_CLASSES (R167). -/
def execEventClasses (tag : Byte) (body : List Byte) (s : State) : Host.Outcome State Fault Refusal :=
  .next (s.request 0x06 tag (eventClassesHandler body))

/-- WATCH_ENTER (R118). -/
def execWatchEnter (tag : Byte) (body : List Byte) (s : State) : Host.Outcome State Fault Refusal :=
  .next (s.request 0x07 tag (watchEnterHandler body))

/-! ## Grading tables -/

/-- PROFILE_LOAD (R64). -/
def execProfileLoad (tag : Byte) (body : List Byte) (s : State) : Host.Outcome State Fault Refusal :=
  .next (s.request 0x10 tag (profileLoadHandler body))

/-- PROFILE_READ (R65). -/
def execProfileRead (tag : Byte) (body : List Byte) (s : State) : Host.Outcome State Fault Refusal :=
  .next (s.request 0x11 tag (profileReadHandler body))

/-- PLAN_LOAD (R21). -/
def execPlanLoad (tag : Byte) (body : List Byte) (s : State) : Host.Outcome State Fault Refusal :=
  .next (s.request 0x12 tag (planLoadHandler body))

/-- PLAN_READ (R22). -/
def execPlanRead (tag : Byte) (body : List Byte) (s : State) : Host.Outcome State Fault Refusal :=
  .next (s.request 0x13 tag (planReadHandler body))

/-- GRADE_LIMITS, write form (R76). -/
def execGradeLimits (tag : Byte) (body : List Byte) (s : State) : Host.Outcome State Fault Refusal :=
  .next (s.request 0x14 tag (gradeLimitsHandler body))

/-- GRADE_LIMITS, read form (R76). -/
def execGradeLimitsRead (tag : Byte) (body : List Byte) (s : State) : Host.Outcome State Fault Refusal :=
  .next (s.request 0x14 tag (gradeLimitsHandler body))

/-! ## Bays -/

/-- BAY_ENGAGE (R5). -/
def execBayEngage (tag : Byte) (body : List Byte) (s : State) : Host.Outcome State Fault Refusal :=
  .next (s.request 0x20 tag (bayEngageHandler body))

/-- BAY_RUN (R7). -/
def execBayRun (tag : Byte) (body : List Byte) (s : State) : Host.Outcome State Fault Refusal :=
  .next (s.request 0x21 tag (bayRunHandler body))

/-- BAY_ABORT (R8). -/
def execBayAbort (tag : Byte) (body : List Byte) (s : State) : Host.Outcome State Fault Refusal :=
  .next (s.request 0x22 tag (bayAbortHandler body))

/-- BAY_RELEASE (R9). -/
def execBayRelease (tag : Byte) (body : List Byte) (s : State) : Host.Outcome State Fault Refusal :=
  .next (s.request 0x23 tag (bayReleaseHandler body))

/-- BAY_QUERY (R17). -/
def execBayQuery (tag : Byte) (body : List Byte) (s : State) : Host.Outcome State Fault Refusal :=
  .next (s.request 0x24 tag (bayQueryHandler body))

/-! ## The pool -/

/-- POOL_READ (R98). -/
def execPoolRead (tag : Byte) (body : List Byte) (s : State) : Host.Outcome State Fault Refusal :=
  .next (s.request 0x30 tag (poolReadHandler body))

/-- POOL_LIST (R99). -/
def execPoolList (tag : Byte) (body : List Byte) (s : State) : Host.Outcome State Fault Refusal :=
  .next (s.request 0x31 tag (poolListHandler body))

/-- POOL_IMPORT (R102). -/
def execPoolImport (tag : Byte) (body : List Byte) (s : State) : Host.Outcome State Fault Refusal :=
  .next (s.request 0x32 tag (poolImportHandler body))

/-- POOL_DELETE (R100). -/
def execPoolDelete (tag : Byte) (body : List Byte) (s : State) : Host.Outcome State Fault Refusal :=
  .next (s.request 0x33 tag (poolDeleteHandler body))

/-- POOL_PLACE (R101). -/
def execPoolPlace (tag : Byte) (body : List Byte) (s : State) : Host.Outcome State Fault Refusal :=
  .next (s.request 0x34 tag (poolPlaceHandler body))

/-- POSITION_READ (R84). -/
def execPositionRead (tag : Byte) (body : List Byte) (s : State) : Host.Outcome State Fault Refusal :=
  .next (s.request 0x35 tag (positionReadHandler body))

/-! ## Strings -/

/-- STRING_BUILD (R127). -/
def execStringBuild (tag : Byte) (body : List Byte) (s : State) : Host.Outcome State Fault Refusal :=
  .next (s.request 0x40 tag (stringBuildHandler body))

/-- STRING_READ (R145). -/
def execStringRead (tag : Byte) (body : List Byte) (s : State) : Host.Outcome State Fault Refusal :=
  .next (s.request 0x41 tag (stringReadHandler body))

/-- STRING_CANCEL (R143). -/
def execStringCancel (tag : Byte) (body : List Byte) (s : State) : Host.Outcome State Fault Refusal :=
  .next (s.request 0x42 tag (stringCancelHandler body))

/-- STRING_CLOSE (R144). -/
def execStringClose (tag : Byte) (body : List Byte) (s : State) : Host.Outcome State Fault Refusal :=
  .next (s.request 0x43 tag (stringCloseHandler body))

/-! ## Lamps -/

/-- LAMP_PATTERN, write form (R153). -/
def execLampPattern (tag : Byte) (body : List Byte) (s : State) : Host.Outcome State Fault Refusal :=
  .next (s.request 0x50 tag (lampPatternHandler body))

/-- LAMP_PATTERN, read form (R153). -/
def execLampPatternRead (tag : Byte) (body : List Byte) (s : State) : Host.Outcome State Fault Refusal :=
  .next (s.request 0x50 tag (lampPatternHandler body))

/-- LAMP_ROLES, write form (R154). -/
def execLampRoles (tag : Byte) (body : List Byte) (s : State) : Host.Outcome State Fault Refusal :=
  .next (s.request 0x51 tag (lampRolesHandler body))

/-- LAMP_ROLES, read form (R154). -/
def execLampRolesRead (tag : Byte) (body : List Byte) (s : State) : Host.Outcome State Fault Refusal :=
  .next (s.request 0x51 tag (lampRolesHandler body))

/-- LAMP_OVERRIDE, setting form (R156). -/
def execLampOverride (tag : Byte) (body : List Byte) (s : State) : Host.Outcome State Fault Refusal :=
  .next (s.request 0x52 tag (lampOverrideHandler body))

/-- LAMP_OVERRIDE, read form (R156). -/
def execLampOverrideRead (tag : Byte) (body : List Byte) (s : State) : Host.Outcome State Fault Refusal :=
  .next (s.request 0x52 tag (lampOverrideHandler body))

/-- LAMP_RELEASE (R157). -/
def execLampRelease (tag : Byte) (body : List Byte) (s : State) : Host.Outcome State Fault Refusal :=
  .next (s.request 0x53 tag (lampReleaseHandler body))

/-! ## Frames of no type, and frames rejected at reception -/

/-- A completed frame of any type (R178); of a type outside the table, the UNKNOWN_TYPE of step 2. -/
def execUnknownType (type tag : Byte) (body : List Byte) (s : State) : Host.Outcome State Fault Refusal :=
  .next (s.request type tag (handlerOf type body))

/-- The receiver right after a sync byte at the moment `now` (R175). -/
def Receiver.begun (now : Moment) : Receiver := ⟨.length, [Config.syncByte], some (now + Config.gapTime)⟩

/-- R175, R176: what the receiver makes of its bytes: a frame still under assembly, a frame rejected, or a completed frame. -/
def State.takeReception (out : Receiver × Reception) (s : State) : State :=
  if s.heldInReset then s
  else
    match out.2 with
    | .pending => s.setLink { s.link with receiver := out.1 }
    | .sizeFailure => s.rejectFrame .size
    | .checkFailure => s.rejectFrame .check
    | .complete type tag body => s.request type tag (handlerOf type body)

/-- The gap timer expires (R175). It does not run in HUNT. -/
def execFrameRejectedGap (s : State) : Host.Outcome State Fault Refusal :=
  match s.link.receiver.gapTimer with
  | some d => .next ((s.reach d).rejectFrame .gap)
  | none => .next s

/-- The second length byte arrives (R176): above 1,024 the frame is discarded with reason SIZE. -/
def execFrameRejectedSize (lengthLow lengthHigh : Byte) (s : State) : Host.Outcome State Fault Refusal :=
  .next (s.takeReception (Receiver.receiveAll s.now [lengthLow, lengthHigh] (Receiver.begun s.now)))

/-- The last check byte arrives (R176): a check that differs from the computed one discards the frame with reason CHECK. -/
def execFrameRejectedCheck (type tag : Byte) (body : List Byte) (check : BitVec 16) (s : State) :
    Host.Outcome State Fault Refusal :=
  .next (s.takeReception
    (Receiver.receiveAll s.now (checkedBytes type tag body ++ bytes16 check.toNat) (Receiver.begun s.now)))

/-- A byte of 0xC3 arrives (R175): in HUNT it begins a frame, and within a frame it is data. -/
def execSyncByte (s : State) : Host.Outcome State Fault Refusal :=
  .next (s.takeReception (s.link.receiver.receive Config.syncByte s.now))

/-! ## Replies sent -/

/-- The last byte of the head reply has been sent (R177); a RESET takes effect once its own reply, the last of the list, has
gone (R181). -/
def execReplySent (s : State) : Host.Outcome State Fault Refusal :=
  match s.link.transmit with
  | [] => .next s
  | _ :: rest =>
    match rest, s.link.resetHold with
    | [], some kind => .next ((s.setLink { s.link with transmit := [], resetHold := none }).takeReset kind)
    | _, _ => .next (s.setLink { s.link with transmit := rest })

end Sys2Proof.Machine
end

