-- ==== Sys2Proof/Machine/PartEvents.lean ====
section
/-! DEFINITION. The meanings of the scanner's and the queue's timers and of power and the reset input (R106, R119, R169, R182,
R183). -/

namespace Sys2Proof.Machine

/-! ## Rack scanner and attention output -/

/-- DWELL_TIMER_EXPIRY (R106). -/
def execDwellTimerExpiry (contacts : BitVec 24) (s : State) : Host.Outcome State Fault Refusal :=
  match s.scanner.dwellTimer with
  | some d => .next ((s.reach d).dwellOver contacts)
  | none => .next s

/-- WATCH_TIMER_EXPIRY (R119). -/
def execWatchTimerExpiry (s : State) : Host.Outcome State Fault Refusal :=
  match s.scanner.watchTimer with
  | some d => .next ((s.reach d).selectRow 0)
  | none => .next s

/-- R169: the pulse is over. -/
def State.endPulse (s : State) : State := s.setEvents { s.events with pulseTimer := none }

/-- PULSE_TIMER_EXPIRY (R169). -/
def execPulseTimerExpiry (s : State) : Host.Outcome State Fault Refusal :=
  match s.events.pulseTimer with
  | some d => .next ((s.reach d).endPulse)
  | none => .next s

/-! ## Power and the reset input -/

/-- R183: power-on starts time anew and sets the reset-line function to FULL. -/
def State.powerUp (s : State) : State :=
  (s.setClock ⟨0, 0, 0⟩).setSettings { s.settings with resetLine := .full }

/-- POWER_ON (R183). With the reset input asserted the part stays held in full reset, and its RESTART will carry POWER_ON. -/
def execPowerOn (resetAsserted : Bool) (s : State) : Host.Outcome State Fault Refusal :=
  if resetAsserted then .next (s.powerUp.holdReset .powerOn)
  else .next ((s.powerUp.setResetInput .released).fullReset .powerOn)

/-- RESET_INPUT_ASSERTION (R182): a held full reset or a line stop, by the function in force. An input already asserted cannot
be asserted again before its release. -/
def execResetInputAssertion (s : State) : Host.Outcome State Fault Refusal :=
  match s.resetInput with
  | .released =>
    match s.settings.resetLine with
    | .full => .next (s.holdReset .full)
    | .line => .next ((s.setResetInput .heldLine).lineStop)
  | .heldFull _ | .heldLine => .next s

/-- RESET_INPUT_RELEASE (R182): after a FULL assertion the part starts as from a full reset; after a LINE assertion nothing
follows. -/
def execResetInputRelease (s : State) : Host.Outcome State Fault Refusal :=
  match s.resetInput with
  | .heldFull cause => .next ((s.setResetInput .released).fullReset cause)
  | .heldLine => .next (s.setResetInput .released)
  | .released => .next s

end Sys2Proof.Machine
end

