-- ==== Sys2Proof/Machine/Dispatch.lean ====
section
/-! DEFINITION. The meaning of every command, one arm for each row of spec/opcode_table.json. -/

namespace Sys2Proof.Machine

def exec (i : Instr) (s : State) : Host.Outcome State Fault Refusal :=
  match i with
  | .powerOn resetAsserted => Sys2Proof.Machine.execPowerOn resetAsserted s
  | .resetInputAssertion => Sys2Proof.Machine.execResetInputAssertion s
  | .resetInputRelease => Sys2Proof.Machine.execResetInputRelease s
  | .status tag body => Sys2Proof.Machine.execStatus tag body s
  | .resetFull tag body => Sys2Proof.Machine.execResetFull tag body s
  | .resetLine tag body => Sys2Proof.Machine.execResetLine tag body s
  | .settingWrite tag body => Sys2Proof.Machine.execSettingWrite tag body s
  | .settingRead tag body => Sys2Proof.Machine.execSettingRead tag body s
  | .eventsTake tag body => Sys2Proof.Machine.execEventsTake tag body s
  | .eventClasses tag body => Sys2Proof.Machine.execEventClasses tag body s
  | .watchEnter tag body => Sys2Proof.Machine.execWatchEnter tag body s
  | .profileLoad tag body => Sys2Proof.Machine.execProfileLoad tag body s
  | .profileRead tag body => Sys2Proof.Machine.execProfileRead tag body s
  | .planLoad tag body => Sys2Proof.Machine.execPlanLoad tag body s
  | .planRead tag body => Sys2Proof.Machine.execPlanRead tag body s
  | .gradeLimits tag body => Sys2Proof.Machine.execGradeLimits tag body s
  | .gradeLimitsRead tag body => Sys2Proof.Machine.execGradeLimitsRead tag body s
  | .bayEngage tag body => Sys2Proof.Machine.execBayEngage tag body s
  | .bayRun tag body => Sys2Proof.Machine.execBayRun tag body s
  | .bayAbort tag body => Sys2Proof.Machine.execBayAbort tag body s
  | .bayRelease tag body => Sys2Proof.Machine.execBayRelease tag body s
  | .bayQuery tag body => Sys2Proof.Machine.execBayQuery tag body s
  | .poolRead tag body => Sys2Proof.Machine.execPoolRead tag body s
  | .poolList tag body => Sys2Proof.Machine.execPoolList tag body s
  | .poolImport tag body => Sys2Proof.Machine.execPoolImport tag body s
  | .poolDelete tag body => Sys2Proof.Machine.execPoolDelete tag body s
  | .poolPlace tag body => Sys2Proof.Machine.execPoolPlace tag body s
  | .positionRead tag body => Sys2Proof.Machine.execPositionRead tag body s
  | .stringBuild tag body => Sys2Proof.Machine.execStringBuild tag body s
  | .stringRead tag body => Sys2Proof.Machine.execStringRead tag body s
  | .stringCancel tag body => Sys2Proof.Machine.execStringCancel tag body s
  | .stringClose tag body => Sys2Proof.Machine.execStringClose tag body s
  | .lampPattern tag body => Sys2Proof.Machine.execLampPattern tag body s
  | .lampPatternRead tag body => Sys2Proof.Machine.execLampPatternRead tag body s
  | .lampRoles tag body => Sys2Proof.Machine.execLampRoles tag body s
  | .lampRolesRead tag body => Sys2Proof.Machine.execLampRolesRead tag body s
  | .lampOverride tag body => Sys2Proof.Machine.execLampOverride tag body s
  | .lampOverrideRead tag body => Sys2Proof.Machine.execLampOverrideRead tag body s
  | .lampRelease tag body => Sys2Proof.Machine.execLampRelease tag body s
  | .unknownType type tag body => Sys2Proof.Machine.execUnknownType type tag body s
  | .frameRejectedGap => Sys2Proof.Machine.execFrameRejectedGap s
  | .frameRejectedSize lengthLow lengthHigh => Sys2Proof.Machine.execFrameRejectedSize lengthLow lengthHigh s
  | .frameRejectedCheck type tag body check => Sys2Proof.Machine.execFrameRejectedCheck type tag body check s
  | .replySent => Sys2Proof.Machine.execReplySent s
  | .bayContactChange bay contact closed => Sys2Proof.Machine.execBayContactChange bay contact closed s
  | .debounceExpiry bay contact => Sys2Proof.Machine.execDebounceExpiry bay contact s
  | .engageSettleExpiry bay => Sys2Proof.Machine.execEngageSettleExpiry bay s
  | .releaseGuardExpiry bay => Sys2Proof.Machine.execReleaseGuardExpiry bay s
  | .tagReaderAnswer bay answer => Sys2Proof.Machine.execTagReaderAnswer bay answer s
  | .readTimerExpiry bay => Sys2Proof.Machine.execReadTimerExpiry bay s
  | .restTimerExpiry bay => Sys2Proof.Machine.execRestTimerExpiry bay s
  | .coolWaitTimerExpiry bay => Sys2Proof.Machine.execCoolWaitTimerExpiry bay s
  | .monitorTimerExpiry bay => Sys2Proof.Machine.execMonitorTimerExpiry bay s
  | .durationTimerExpiry bay => Sys2Proof.Machine.execDurationTimerExpiry bay s
  | .recoveryTimerExpiry bay => Sys2Proof.Machine.execRecoveryTimerExpiry bay s
  | .sampleTimerExpiry bay => Sys2Proof.Machine.execSampleTimerExpiry bay s
  | .timeLimitExpiry bay => Sys2Proof.Machine.execTimeLimitExpiry bay s
  | .settleTimerExpiry bay => Sys2Proof.Machine.execSettleTimerExpiry bay s
  | .conversionComplete voltage current moduleTemp heatsinkTemp => Sys2Proof.Machine.execConversionComplete voltage current moduleTemp heatsinkTemp s
  | .agingTimerExpiry => Sys2Proof.Machine.execAgingTimerExpiry s
  | .dwellTimerExpiry contacts => Sys2Proof.Machine.execDwellTimerExpiry contacts s
  | .watchTimerExpiry => Sys2Proof.Machine.execWatchTimerExpiry s
  | .pulseTimerExpiry => Sys2Proof.Machine.execPulseTimerExpiry s
  | .syncByte => Sys2Proof.Machine.execSyncByte s

end Sys2Proof.Machine
end

