-- ==== Sys2Proof/Machine/Replies.lean ====
section
/-! DEFINITION. The reply frames as the bytes the part sends (R173, R174, R178): each name by its place in its list, each number
by its range, each optional field behind its presence mark. -/

namespace Sys2Proof.Machine

/-! ## Codes of names (R173) -/

def Status.code : Status → Nat
  | .ok => 0
  | .accepted => 1
  | .unknownType => 2
  | .length => 3
  | .range => 4
  | .state => 5
  | .absent => 6
  | .inUse => 7
  | .full => 8

def RejectReason.code : RejectReason → Nat
  | .gap => 0
  | .size => 1
  | .check => 2

def BayStateName.code : BayStateName → Nat
  | .empty => 0
  | .seated => 1
  | .engaging => 2
  | .engaged => 3
  | .testing => 4
  | .hold => 5
  | .releasing => 6
  | .faulted => 7

def PhaseName.code : PhaseName → Nat
  | .ident => 0
  | .rest0 => 1
  | .pulse => 2
  | .recover => 3
  | .drain => 4
  | .settle => 5
  | .verdict => 6

def SubState.code : SubState → Nat
  | .coolWait => 0
  | .loadWait => 1
  | .loadOn => 2
  | .endWait => 3

def FaultCause.code : FaultCause → Nat
  | .presenceLost => 0
  | .clampOpen => 1
  | .identMismatch => 2
  | .identUnread => 3
  | .heat => 4
  | .moduleHot => 5
  | .loadShortfall => 6
  | .pulseNoDrop => 7

def TestOutcome.code : TestOutcome → Nat
  | .graded => 0
  | .rejectDeep => 1
  | .rejectOver => 2
  | .tempOut => 3
  | .aborted => 4
  | .faulted => 5
  | .lineStopped => 6

def ResultRole.code : ResultRole → Nat
  | .none => 0
  | .bayPass => 1
  | .bayReject => 2

def RecordState.code : RecordState → Nat := RecordState.bit

def PositionStateName.code : PositionStateName → Nat
  | .free => 0
  | .assigned => 1
  | .held => 2
  | .vacated => 3
  | .unknown => 4

def StringStateName.code : StringStateName → Nat
  | .free => 0
  | .waiting => 1
  | .picking => 2
  | .blocked => 3
  | .complete => 4

def StringState.code : StringState → Nat
  | .waiting => 1
  | .picking => 2
  | .blocked => 3
  | .complete => 4

def StringMode.code : StringMode → Nat
  | .capacity => 0
  | .resistance => 1

def Curve.code : Curve → Nat
  | .linear => 0
  | .square => 1

/-- "none" has code 0, and the ten roles follow it. -/
def lampRoleCode : Option LampRole → Nat
  | none => 0
  | some r => r.place + 1

def RestartCause.code : RestartCause → Nat
  | .powerOn => 0
  | .full => 1

def WokenCause.code : WokenCause → Nat
  | .link => 0
  | .bay => 1
  | .rack => 2

/-- The origin of a record: the bay number, or 255 for imported. -/
def Origin.code : Origin → Nat
  | .bay b => b
  | .imported => 255

/-- A set of flags: bit k for the k-th flag of the list. -/
def Flags.code (f : Flags) : Nat :=
  f.capAbsent.toNat + 2 * f.sparse.toNat + 4 * f.unsettled.toNat + 8 * f.timeLimited.toNat + 16 * f.downgraded.toNat
    + 32 * f.reseated.toNat + 64 * f.imported.toNat

/-- The place of each kind in R161's table. -/
def Happening.code : Happening → Nat
  | .baySeated .. => 0
  | .bayEmpty .. => 1
  | .bayEngaged .. => 2
  | .testDone .. => 3
  | .bayFault .. => 4
  | .bayHold .. => 5
  | .resultDiscarded .. => 6
  | .derateOn .. => 7
  | .derateOff .. => 8
  | .recordShelved .. => 9
  | .unknownOccupant .. => 10
  | .occupantGone .. => 11
  | .strayRemoval .. => 12
  | .reseated .. => 13
  | .recordStale .. => 14
  | .recordFresh .. => 15
  | .downgraded .. => 16
  | .shelfReject .. => 17
  | .rejectRemoved .. => 18
  | .stringReserved .. => 19
  | .slotPicked .. => 20
  | .slotReplaced .. => 21
  | .stringBlocked .. => 22
  | .stringComplete .. => 23
  | .restart .. => 24
  | .lineStop => 25
  | .woken .. => 26

/-! ## Fields -/

/-- A number, name or choice of one byte. -/
def out8 (n : Nat) : List Byte := [byte n]

/-- A signed number of one byte. -/
def outSigned (t : Int) : List Byte := [BitVec.ofInt 8 t]

/-- A choice of yes or no, 1 for yes (R173). DESIGN CHOICE (assumption 32): a mark or a flag that is set or clear is sent in the same
way, 1 for set. -/
def outChoice (b : Bool) : List Byte := out8 b.toNat

/-- An optional field behind its presence mark. -/
def outOptional {α : Type} (f : α → List Byte) : Option α → List Byte
  | none => out8 0
  | some x => out8 1 ++ f x

/-- A list of varying length behind its count. -/
def outList {α : Type} (f : α → List Byte) (xs : List α) : List Byte := out8 xs.length ++ xs.flatMap f

def outIdentity (x : Identity) : List Byte := x.toList

def outGrade (g : Grade) : List Byte := out8 g.rank

/-! ## Records and events -/

/-- The subject and details of an event (R161). -/
def Happening.bytes : Happening → List Byte
  | .baySeated b | .bayEmpty b | .bayEngaged b => out8 b
  | .testDone b o g r p =>
    out8 b ++ out8 o.code ++ outOptional outGrade g ++ outOptional (fun (x : RecordNo) => out8 x) r
      ++ outOptional (fun (x : PositionNo) => out8 x) p
  | .bayFault b c => out8 b ++ out8 c.code
  | .bayHold b g | .resultDiscarded b g => out8 b ++ outGrade g
  | .derateOn b setpoint derated t => out8 b ++ bytes16 setpoint ++ bytes16 derated ++ outSigned t
  | .derateOff b current t => out8 b ++ bytes16 current ++ outSigned t
  | .recordShelved r p | .strayRemoval r p | .reseated r p => out8 r ++ out8 p
  | .unknownOccupant p | .occupantGone p => out8 p
  | .recordStale r | .recordFresh r => out8 r
  | .downgraded r old new d => out8 r ++ outGrade old ++ outGrade new ++ bytes16 d
  | .shelfReject r p g d => out8 r ++ out8 p ++ outGrade g ++ bytes16 d
  | .rejectRemoved p r o => out8 p ++ out8 r ++ out8 o.code
  | .stringReserved k n rs => out8 k ++ out8 n ++ outList (fun (x : RecordNo) => out8 x) rs
  | .slotPicked k slot order p => out8 k ++ out8 slot ++ out8 order ++ out8 p
  | .slotReplaced k slot r => out8 k ++ out8 slot ++ out8 r
  | .stringBlocked k n | .stringComplete k n => out8 k ++ out8 n
  | .restart c => out8 c.code
  | .lineStop => []
  | .woken c => out8 c.code

/-- An event record: its kind, its time, its subject and its details; the class is not carried. -/
def Event.bytes (e : Event) : List Byte := out8 e.what.code ++ bytes32 e.time ++ e.what.bytes

/-- A pool record, in the order of the table of pool records (R98). -/
def Record.bytes (x : Record) : List Byte :=
  out8 x.state.code ++ out8 x.position ++ outOptional outIdentity x.identity ++ out8 x.profile ++ out8 x.cells
    ++ bytes32 x.nameplate ++ outGrade x.grade
    ++ outOptional (fun c => bytes32 c.milliampHours) x.capacity ++ outOptional (fun c => bytes16 c.health) x.capacity
    ++ bytes16 x.resistance ++ bytes16 x.ratio ++ out8 x.flags.code ++ out8 x.origin.code ++ bytes32 x.gradedTime
    ++ bytes32 x.restVoltage ++ bytes32 x.restTime ++ outChoice x.sampled
    ++ outOptional (fun b => bytes32 b.voltage ++ bytes32 b.time) x.baseline ++ outOptional bytes16 x.drift
    ++ (match x.state with
        | .reserved k slot => out8 1 ++ out8 k ++ out8 slot
        | _ => out8 0)
    ++ outChoice x.stale

/-! ## Reports -/

def StatusReport.bytes (x : StatusReport) : List Byte :=
  out8 x.family ++ out8 x.revision ++ bytes32 x.seconds ++ outChoice x.watch ++ x.bays.flatMap (fun b => out8 b.code)
    ++ out8 x.records ++ x.strings.flatMap (fun k => out8 k.code) ++ out8 x.depth ++ outChoice x.overflow

/-- The request fields in the order of R7 and R23, the bay first. -/
def RunRequest.bytes (q : RunRequest) : List Byte :=
  out8 q.bay ++ out8 q.plan ++ out8 q.profile ++ out8 q.cells ++ bytes32 q.nameplate ++ bytes16 q.nominal
    ++ outOptional outIdentity q.expected ++ outChoice q.autoRelease

/-- The last result's items in the order of R17. -/
def ResultReport.bytes (x : ResultReport) : List Byte :=
  out8 x.outcome.code ++ outOptional outGrade x.grade ++ out8 x.flags.code
    ++ outOptional (fun (r : RecordNo) => out8 r) x.record ++ outOptional (fun (p : PositionNo) => out8 p) x.position
    ++ bytes32 x.endTime

def ProgramReport.bytes (x : ProgramReport) : List Byte :=
  out8 x.phase.code ++ outOptional (fun k => out8 (SubState.code k)) x.sub ++ outChoice x.abortPending

/-- BAY_QUERY's items in the order of R17. DESIGN CHOICE (assumption 32): a debounced level, for which R173 lists no codes, is one byte,
1 for present and for closed, and 0 for absent and for open. -/
def BayReport.bytes (x : BayReport) : List Byte :=
  out8 x.state.code ++ outOptional ProgramReport.bytes x.program ++ outChoice x.presence ++ outChoice x.clampClosed
    ++ outOptional (fun c => out8 (FaultCause.code c)) x.cause ++ outOptional RunRequest.bytes x.request
    ++ outOptional outIdentity x.identity ++ outOptional outGrade x.heldGrade
    ++ outOptional ResultReport.bytes x.lastResult ++ out8 x.resultRole.code

/-- POSITION_READ's items in the order of R84. DESIGN CHOICE (assumption 32): the debounced presence is one byte, 1 for
present and 0 for absent. -/
def PositionReport.bytes (x : PositionReport) : List Byte :=
  out8 x.state.code ++ outOptional (fun (r : RecordNo) => out8 r) x.record ++ outChoice x.present
    ++ outChoice x.pendingChange ++ out8 (lampRoleCode x.role)

def SlotValues.bytes (v : SlotValues) : List Byte :=
  outOptional bytes32 v.capacity ++ bytes16 v.resistance ++ bytes32 v.voltage ++ outOptional outIdentity v.identity

/-- A slot as STRING_READ gives it: its state and the fields of that state (R145). -/
def SlotReport.bytes (x : SlotReport) : List Byte :=
  match x.slot with
  | .reserved r v => out8 0 ++ out8 r ++ out8 ((x.position.map (·.val)).getD 0) ++ v.bytes
  | .picked v order time => out8 1 ++ v.bytes ++ out8 order ++ bytes32 time
  | .vacant => out8 2

/-- A slot as STRING_BUILD gives it: its record, its position and its values (R127). -/
def SlotReport.builtBytes (x : SlotReport) : List Byte :=
  match x.slot with
  | .reserved r v => out8 r ++ out8 ((x.position.map (·.val)).getD 0) ++ v.bytes
  | _ => []

/-- A PICKED slot as STRING_CLOSE gives it: its order number, its time and its values (R144). -/
def SlotReport.closedBytes (x : SlotReport) : List Byte :=
  match x.slot with
  | .picked v order time => out8 order ++ bytes32 time ++ v.bytes
  | _ => []

def StringRequest.bytes (q : StringRequest) : List Byte :=
  out8 q.profile ++ out8 q.cells ++ out8 q.length ++ out8 q.mode.code ++ bytes32 q.capacityTolerance
    ++ bytes16 q.resistanceTolerance ++ bytes16 q.voltageTolerance ++ outGrade q.minGrade

/-- R145: outside FREE the request and created time, and in PICKING, BLOCKED and COMPLETE the slot list. DESIGN CHOICE (assumption
31): the counts and the NEXT_PICK slot, whose sentence names no state, are sent in WAITING too (0, 0 and absent), and the slot
list is present or not by the state alone, with no presence mark. -/
def StringReport.bytes (x : StringReport) : List Byte :=
  out8 x.state.code ++ x.request.bytes ++ bytes32 x.created
    ++ (if x.state = .waiting then [] else outList SlotReport.bytes x.slots)
    ++ out8 x.pickedCount ++ out8 x.vacantCount ++ outOptional out8 x.nextPick

def Plan.bytes (p : Plan) : List Byte :=
  bytes16 p.restTime ++ bytes16 p.pulseCurrent ++ bytes16 p.pulseDuration ++ bytes32 p.recoveryTime ++ outChoice p.drain
    ++ bytes16 p.drainCurrent ++ bytes16 p.drainDepth ++ bytes16 p.floorVoltage ++ bytes16 p.timeLimit
    ++ bytes16 p.settleWindow ++ out8 p.stabilityBand ++ outSigned p.windowLow ++ outSigned p.windowHigh

def Profile.bytes (f : Profile) : List Byte := f.breakpoints.toList.flatMap bytes16 ++ out8 f.coefficient

def GradeLimits.bytes (l : GradeLimits) : List Byte :=
  bytes16 l.sohA ++ bytes16 l.sohB ++ bytes16 l.sohC ++ bytes16 l.rrA ++ bytes16 l.rrB ++ bytes16 l.rrC

def ClassEnables.bytes (e : ClassEnables) : List Byte :=
  outChoice e.bay ++ outChoice e.load ++ outChoice e.pool ++ outChoice e.string ++ outChoice e.system

def Pattern.bytes (p : Pattern) : List Byte :=
  bytes16 p.onTime ++ bytes16 p.offTime ++ out8 p.onIntensity ++ out8 p.offIntensity ++ bytes16 p.fadeIn
    ++ bytes16 p.fadeOut ++ out8 p.curve.code

def LampReport.bytes (x : LampReport) : List Byte :=
  out8 (lampRoleCode x.role) ++ outOptional (fun (p : PatternNo) => out8 p) x.override
    ++ outOptional (fun (p : PatternNo) => out8 p) x.shown ++ out8 x.level ++ bytes16 x.drive

/-! ## Whole replies -/

/-- The status a reply begins with (R178); a FRAME_REJECTED has none (R176). -/
def ReplyBody.status : ReplyBody → Option Status
  | .plain st => some st
  | .frameRejected _ => none
  | _ => some .ok

/-- A reply's fields after its status. DESIGN CHOICE (assumption 31): STRING_BUILD's slot list is there by the new state alone, with
no presence mark (R127). -/
def ReplyBody.fields : ReplyBody → List Byte
  | .plain _ => []
  | .frameRejected reason => out8 reason.code
  | .partStatus x => x.bytes
  | .setting item value => out8 item ++ bytes32 value
  | .eventsTaken es overflow left => outList Event.bytes es ++ outChoice overflow ++ out8 left
  | .classes e => e.bytes
  | .profile f => f.bytes
  | .plan p => p.bytes
  | .limits l => l.bytes
  | .bay x => x.bytes
  | .record x => x.bytes
  | .recordList xs next => outList Record.bytes xs ++ outOptional out8 next
  | .imported r st => out8 r ++ out8 st.code
  | .deleted p st => out8 p ++ out8 st.code
  | .position x => x.bytes
  | .stringBuilt k st slots =>
    out8 k ++ out8 st.code ++ (if st = .picking then outList SlotReport.builtBytes slots else [])
  | .string none => out8 0
  | .string (some x) => x.bytes
  | .cancelled before picked =>
    out8 before.code ++ outList (fun x => out8 x.number ++ SlotReport.closedBytes x) picked
  | .closed q created slots => q.bytes ++ bytes32 created ++ outList SlotReport.closedBytes slots
  | .pattern p => p.bytes
  | .roleMap m => m.toList.flatMap fun p => out8 p
  | .overridden l old => out8 l ++ outOptional (fun (p : PatternNo) => out8 p) old
  | .lamp x => x.bytes
  | .released n => bytes16 n

/-- A reply's body: its status, then its fields. -/
def ReplyBody.bytes (x : ReplyBody) : List Byte :=
  (match x.status with
   | some st => out8 st.code
   | none => []) ++ x.fields

/-- A reply frame's bytes. -/
def Reply.bytes (x : Reply) : List Byte := frameBytes x.type x.tag x.body.bytes

/-- R177: the bytes of the reply being sent, the head of the transmit list. -/
def State.sending (s : State) : List Byte :=
  match s.link.transmit with
  | x :: _ => x.bytes
  | [] => []

end Sys2Proof.Machine
end

