-- ==== Sys2Proof/Safety.lean ====
section
/-! DEFINITION. What counts as a sound state of the part, and the terms that statements about commands use: a listening link, an
answered request, and how an event stands in the queue. -/

namespace Sys2Proof

/-! ## Frames among the commands -/

/-- The type, tag and body of a command that is a completed frame (R173, R178's table). -/
def Instr.frame : Instr → Option (Byte × Byte × List Byte)
  | .status tag body => some (0x01, tag, body)
  | .resetFull tag body => some (0x02, tag, body)
  | .resetLine tag body => some (0x02, tag, body)
  | .settingWrite tag body => some (0x03, tag, body)
  | .settingRead tag body => some (0x04, tag, body)
  | .eventsTake tag body => some (0x05, tag, body)
  | .eventClasses tag body => some (0x06, tag, body)
  | .watchEnter tag body => some (0x07, tag, body)
  | .profileLoad tag body => some (0x10, tag, body)
  | .profileRead tag body => some (0x11, tag, body)
  | .planLoad tag body => some (0x12, tag, body)
  | .planRead tag body => some (0x13, tag, body)
  | .gradeLimits tag body => some (0x14, tag, body)
  | .gradeLimitsRead tag body => some (0x14, tag, body)
  | .bayEngage tag body => some (0x20, tag, body)
  | .bayRun tag body => some (0x21, tag, body)
  | .bayAbort tag body => some (0x22, tag, body)
  | .bayRelease tag body => some (0x23, tag, body)
  | .bayQuery tag body => some (0x24, tag, body)
  | .poolRead tag body => some (0x30, tag, body)
  | .poolList tag body => some (0x31, tag, body)
  | .poolImport tag body => some (0x32, tag, body)
  | .poolDelete tag body => some (0x33, tag, body)
  | .poolPlace tag body => some (0x34, tag, body)
  | .positionRead tag body => some (0x35, tag, body)
  | .stringBuild tag body => some (0x40, tag, body)
  | .stringRead tag body => some (0x41, tag, body)
  | .stringCancel tag body => some (0x42, tag, body)
  | .stringClose tag body => some (0x43, tag, body)
  | .lampPattern tag body => some (0x50, tag, body)
  | .lampPatternRead tag body => some (0x50, tag, body)
  | .lampRoles tag body => some (0x51, tag, body)
  | .lampRolesRead tag body => some (0x51, tag, body)
  | .lampOverride tag body => some (0x52, tag, body)
  | .lampOverrideRead tag body => some (0x52, tag, body)
  | .lampRelease tag body => some (0x53, tag, body)
  | .unknownType type tag body => some (type, tag, body)
  | .powerOn _ | .resetInputAssertion | .resetInputRelease | .frameRejectedGap | .frameRejectedSize _ _
  | .frameRejectedCheck _ _ _ _ | .replySent | .bayContactChange _ _ _ | .debounceExpiry _ _ | .engageSettleExpiry _
  | .releaseGuardExpiry _ | .tagReaderAnswer _ _ | .readTimerExpiry _ | .restTimerExpiry _ | .coolWaitTimerExpiry _
  | .monitorTimerExpiry _ | .durationTimerExpiry _ | .recoveryTimerExpiry _ | .sampleTimerExpiry _ | .timeLimitExpiry _
  | .settleTimerExpiry _ | .conversionComplete _ _ _ _ | .agingTimerExpiry | .dwellTimerExpiry _ | .watchTimerExpiry
  | .pulseTimerExpiry | .syncByte => none

/-- The body lengths of each message type by the fields of its owner's rule (R173, R178 step 3): one length, or one for each
choice of the optional fields. -/
def bodyLengths : List (Byte × List Nat) :=
  [(0x01, [0]), (0x02, [1]), (0x03, [5]), (0x04, [1]), (0x05, [1]), (0x06, [2]), (0x07, [0]), (0x10, [44]), (0x11, [1]),
   (0x12, [25]), (0x13, [1]), (0x14, [1, 13]), (0x20, [1]), (0x21, [12, 24]), (0x22, [1]), (0x23, [1]), (0x24, [1]),
   (0x30, [1]), (0x31, [2]), (0x32, [24, 26, 28, 30, 36, 38, 40, 42]), (0x33, [1]), (0x34, [2]), (0x35, [1]), (0x40, [13]),
   (0x41, [1]), (0x42, [1]), (0x43, [1]), (0x50, [2, 13]), (0x51, [1, 11]), (0x52, [2, 3]), (0x53, [2])]

/-- The message types whose one field names one of a number of things, with that number (R173). -/
def numberTypes : List (Byte × Nat) :=
  [(0x11, 4), (0x13, 4), (0x20, 16), (0x22, 16), (0x23, 16), (0x24, 16), (0x30, 240), (0x33, 240), (0x35, 240), (0x41, 6),
   (0x42, 6), (0x43, 6)]

namespace Machine

/-! ## Sound states -/

/-- R49: the granted sum does not exceed the bus budget in force. -/
abbrev State.withinBudget (s : State) : Prop := s.load.grantedSum ≤ s.settings.busBudget

/-- The bounds the manual gives the part's queues and loads, and the lamps' darkening: at most 64 event records (R162), 16 replies
(R177) and 4 start times (R50), no more current granted than the budget (R49), and every lamp dark exactly in shelf watch (R158). -/
structure State.Bounded (s : State) : Prop where
  events : s.events.queue.length ≤ Config.eventPlaces
  replies : s.link.transmit.length ≤ Config.transmitPlaces
  starts : s.load.starts.length ≤ Config.startLimit
  budget : s.withinBudget
  dark : s.lamps.dark = true ↔ s.scanner.mode = .watch

/-- R82, R83: the state of the position of record `r`, by the record's state. -/
def RecordState.seat (r : RecordNo) : RecordState → PositionState
  | .unshelved => .assigned r
  | .available | .reserved _ _ | .rejected => .held r
  | .absent => .vacated r

/-- R81-R83: a record in use is bound to the position that its position field names and that names it back, and to no other; no
position names a free index; and the position's state is the one that goes with the record's. -/
structure State.Paired (s : State) : Prop where
  bound : ∀ (r : RecordNo) (p : PositionNo), (s.record r).map (·.position) = some p ↔ (s.position p).state.bound = some r
  seat : ∀ (r : RecordNo) (x : Record), s.record r = some x → (s.position x.position).state = x.state.seat r

/-! ## The link -/

/-- The link interface takes and handles frames (R177, R181, R182). -/
abbrev State.listening (s : State) : Prop := s.heldInReset = false ∧ s.link.accepts = true

/-- The part listens in active operation: a request ends no shelf watch (R178 step 1). -/
abbrev State.attending (s : State) : Prop := s.listening ∧ s.scanner.mode = .active

/-- The state with a frame's reception over and a reply at the tail of the transmit list; nothing else differs. -/
def State.answered (s : State) (type tag : Byte) (body : ReplyBody) : State :=
  { s with link := { s.link with receiver := {}, transmit := s.link.transmit ++ [⟨type, tag, body⟩] } }

/-- The link interface takes no frame: its reset hold is set or its transmit list is full (R177, R181). -/
abbrev State.deaf (s : State) : Prop := s.link.resetHold ≠ none ∨ 16 ≤ s.link.transmit.length

/-! ## Events -/

/-- The event block once `w` has been raised in it at the time `time` (R162, R169). -/
def Events.after (e : Events) (mode : AttentionMode) (now : Moment) (time : Seconds) (w : Happening) : Events :=
  if e.enables.allows w.cls = false then e
  else if e.queue.length < Config.eventPlaces then e.join mode now ⟨time, w⟩
  else { e with overflow := true }

end Machine

end Sys2Proof
end

