-- ==== Sys2Proof/Certificates/Slice0/Obligations.lean ====
section
/-! DEFINITION. The statements about the part, from the spec's rules: its steps and resets, the link, the part-wide requests, the
bays and their programs, the load bus, the pool and the rack, the strings, the lamps, and the grading arithmetic. Where a timer
expires, `s.reach m` is the part at that timer's moment: that the clock comes to stand there is the model's choice (assumption 2). -/

open Sys2Proof Sys2Proof.Machine

/-! ## Steps -/

/-- One step is the command at the front of the queue, on the state with the rest of the queue. -/
def Obligations.AStepRunsTheFrontCommand : Prop :=
  ∀ (c : Instr) (rest : List Instr) (s : State), step { s with pending := c :: rest } = exec c { s with pending := rest }

/-- The model's choices (assumptions 1 and 2). With no command waiting a step is one millisecond of the part's clock, and nothing
but the clock changes. A timer's expiry brings its moment: the clock stands at the later of that moment and the present one,
nothing but the clock changes, and the seconds counter has counted the milliseconds gone by, as long as it fits its 32 bits. -/
def Obligations.TimePassesWithIdlingAndExpiries : Prop :=
  (∀ s : State, s.pending = [] → s.heldInReset = false →
     step s = .next { s with clock := Clock.elapse 1 s.clock } ∧
     (Clock.elapse 1 s.clock).ms = s.clock.ms + 1 ∧
     (s.clock.intoSecond < 999 →
       Clock.elapse 1 s.clock = ⟨s.clock.ms + 1, s.clock.seconds, s.clock.intoSecond + 1⟩) ∧
     (s.clock.intoSecond = 999 → s.clock.seconds + 1 < 2 ^ 32 →
       Clock.elapse 1 s.clock = ⟨s.clock.ms + 1, s.clock.seconds + 1, 0⟩)) ∧
  (∀ (s : State) (m : Moment), s.heldInReset = false → s.clock.intoSecond < 1000 →
     (s.clock.seconds + (m - s.clock.ms) / 1000 + 1 < 2 ^ 32) →
     { s.reach m with clock := s.clock } = s ∧ (s.reach m).clock.ms = max s.clock.ms m ∧
     (s.reach m).clock.intoSecond < 1000 ∧
     1000 * (s.reach m).clock.seconds + (s.reach m).clock.intoSecond =
       1000 * s.clock.seconds + s.clock.intoSecond + (m - s.clock.ms))

/-- R49, R50, R158, R162, R177: the event queue never holds more than 64 records, the transmit list more than 16 replies or the
start list more than 4 times, the granted sum never exceeds the bus budget in force, and the lamps are darkened exactly in shelf
watch. -/
def Obligations.EveryStepKeepsTheBounds : Prop :=
  ∀ s t : State, s.Bounded → step s = .next t → t.Bounded

/-- R81, R83: a record in use is bound to exactly the position its position field names, and a position names only such a record;
and a record's state and its position's state pair: UNSHELVED with ASSIGNED, AVAILABLE, RESERVED or REJECTED with HELD, ABSENT with
VACATED. -/
def Obligations.EveryStepKeepsRecordsAndPositionsPaired : Prop :=
  ∀ s t : State, s.Paired → step s = .next t → t.Paired

/-- The part after reset keeps its bounds, pairs its (absent) records with its positions, is within its bus budget, and listens
in active operation. That it listens (`attending`) rests on the model's choice of assumption 6, that the reset input stands released
in State.reset: a part powered on with the input asserted is held, and listens to nothing (R183). -/
def Obligations.TheResetStateIsSound : Prop :=
  State.reset.Bounded ∧ State.reset.Paired ∧ State.reset.withinBudget ∧ State.reset.attending ∧
    (∀ l : LampNo, State.reset.lampDrive l = 0) ∧ State.reset.attentionAsserted = true

/-! ## Power and resets -/

/-- POWER_ON (R183, R19, R60, R104, R122, R148, R159, R171): whatever stood before, the part is in the state of State.reset, but
for the commands that wait, the raw levels of the bay contacts, which are inputs (assumption 6), and the debounce timer of each
contact that reads closed. With the reset input asserted nothing runs, no row is selected and no event is queued. -/
def Obligations.PowerOnLeavesTheFullResetState : Prop :=
  ∀ s : State,
    exec (.powerOn false) s = .next { State.reset with
      pending := s.pending
      bays := s.bays.map fun y =>
        { presence := ⟨y.presence.raw, false, if y.presence.raw then some 30 else none⟩
          clampClosed := ⟨y.clampClosed.raw, false, if y.clampClosed.raw then some 30 else none⟩ } } ∧
    exec (.powerOn true) s = .next { State.reset with
      pending := s.pending
      resetInput := .heldFull .powerOn
      events := { State.reset.events with queue := [] }
      scanner := { State.reset.scanner with dwellTimer := none }
      bays := s.bays.map fun y => { presence := ⟨y.presence.raw, false, none⟩, clampClosed := ⟨y.clampClosed.raw, false, none⟩ } }

/-- What a full reset that takes effect at the present moment leaves (R19, R48, R60, R104, R122, R148, R159, R171, R181): the
state of State.reset at this moment of the clock, with the seconds counter at 0, the reset-line function, the reset input
and the waiting commands kept. The millisecond base going on, and each epoch, pass start and debounce timer counted from this
moment in it, are the model's choices (assumptions 5 and 14). -/
def FullResetLeaves (cause : RestartCause) (s t : State) : Prop :=
  t = { State.reset with
    clock := ⟨s.clock.ms, 0, 0⟩
    resetInput := s.resetInput
    settings := { Settings.defaults with resetLine := s.settings.resetLine }
    events := { State.reset.events with queue := [⟨0, .restart cause⟩] }
    bays := s.bays.map fun y =>
      { presence := ⟨y.presence.raw, false, if y.presence.raw then some (s.clock.ms + 30) else none⟩
        clampClosed := ⟨y.clampClosed.raw, false, if y.clampClosed.raw then some (s.clock.ms + 30) else none⟩ }
    scanner := { State.reset.scanner with dwellTimer := some (s.clock.ms + 20), passStart := s.clock.ms }
    lamps := { State.reset.lamps with epochs := Vector.replicate 8 s.clock.ms }
    pending := s.pending }

/-- What a line stop leaves (R20, R48, R61, R105, R123, R148, R160, R171): every bay that was doing anything is RELEASING, with a
TESTING bay's last result LINE_STOPPED and a HOLD bay's result role cleared; no grant, derated mark, grant entry, bay
conversion mark or hold entry stands; the start list, the pool, the strings, the tables, the settings, the link and the
patterns are kept. Shelf watch is over: a pass in progress goes on, and a scanner between passes selects row 0 at once. -/
def LineStopLeaves (s t : State) : Prop :=
  let marks : Arbiter := { s.arbiter with bayMarks := Vector.replicate 16 false }
  let active : Scanner := { s.scanner with mode := .active }
  (∀ b : BayNo, t.bay b =
    match (s.bay b).state with
    | .empty | .seated | .releasing _ => s.bay b
    | .testing p => { s.bay b with
        state := .releasing (s.clock.ms + s.settings.releaseGuard)
        lastResult := some ⟨.lineStopped, none, p.flags, p.identity, none, none, s.clock.seconds⟩ }
    | .hold _ _ => { s.bay b with state := .releasing (s.clock.ms + s.settings.releaseGuard), resultRole := .none }
    | .engaging _ | .engaged | .faulted _ => { s.bay b with state := .releasing (s.clock.ms + s.settings.releaseGuard) }) ∧
  t.load = { s.load with granted := Vector.replicate 16 0, derated := Vector.replicate 16 none, queue := [] } ∧
  t.holdQueue = [] ∧ t.scanner.mode = .active ∧ t.lamps = { s.lamps with dark := t.lamps.dark } ∧
  (s.scanner.mode = .active → t.lamps.dark = s.lamps.dark ∧ t.scanner = s.scanner ∧ t.arbiter = marks) ∧
  (s.scanner.mode = .watch → t.lamps.dark = false ∧
    (s.scanner.stage ≠ .betweenPasses → t.scanner = active ∧ t.arbiter = marks) ∧
    (s.scanner.stage = .betweenPasses →
      let selected := State.selectRow 0 { s with scanner := active, arbiter := marks }
      t.scanner = selected.scanner ∧ t.arbiter = selected.arbiter)) ∧
  { t with bays := s.bays, load := s.load, holdQueue := s.holdQueue, scanner := s.scanner, lamps := s.lamps,
           arbiter := s.arbiter, events := s.events } = s

/-- What a line stop queues, with both classes enabled and room for all of it: LINE_STOP and then, in bay order, a TEST_DONE of
LINE_STOPPED for each TESTING bay and a RESULT_DISCARDED for each HOLD bay (R20), in shelf watch as in active operation, with no
WOKEN (R123). -/
def LineStopReports (s t : State) : Prop :=
  s.events.enables.system = true → s.events.enables.bay = true → s.events.queue.length + 17 ≤ 64 →
    t.events.queue = s.events.queue ++ ⟨s.clock.seconds, .lineStop⟩ ::
      ((List.finRange 16).filterMap fun b =>
        match (s.bay b).state with
        | .testing _ => some ⟨s.clock.seconds, .testDone b .lineStopped none none none⟩
        | .hold _ g => some ⟨s.clock.seconds, .resultDiscarded b g.grade⟩
        | _ => none)

/-- RESET_INPUT_ASSERTION and RESET_INPUT_RELEASE (R182, R183): with the function FULL the part stays held in a full reset, with
nothing running and no event queued; with the function LINE a line stop is carried out, with LINE_STOP and the events of the bays. At the release a held part starts, with a RESTART of the cause the hold carried, and after a
line stop nothing follows. That the millisecond base goes on through the hold, and that the pattern epochs, the pass start and the
debounce timers count from the release (the clause FullResetLeaves), are the model's choices (assumptions 5 and 14). -/
def Obligations.TheResetInputHoldsStopsAndReleasesThePart : Prop :=
  (∀ s : State, s.resetInput = .released →
    (s.settings.resetLine = .full →
      exec .resetInputAssertion s = .next { State.reset with
        clock := ⟨s.clock.ms, 0, 0⟩
        resetInput := .heldFull .full
        events := { State.reset.events with queue := [] }
        bays := s.bays.map fun y =>
          { presence := ⟨y.presence.raw, false, none⟩, clampClosed := ⟨y.clampClosed.raw, false, none⟩ }
        scanner := { State.reset.scanner with dwellTimer := none, passStart := s.clock.ms }
        lamps := { State.reset.lamps with epochs := Vector.replicate 8 s.clock.ms }
        pending := s.pending }) ∧
    (s.settings.resetLine = .line →
      ∃ t, exec .resetInputAssertion s = .next t ∧ LineStopLeaves { s with resetInput := .heldLine } t ∧
        LineStopReports s t)) ∧
  (∀ s : State,
    (∀ cause, s.resetInput = .heldFull cause →
      ∃ t, exec .resetInputRelease s = .next t ∧ FullResetLeaves cause { s with resetInput := .released } t) ∧
    (s.resetInput = .heldLine → exec .resetInputRelease s = .next { s with resetInput := .released }))

/-- R182: a part held in full reset stays so through every command but power-on and the release of the input: it is again the
held full reset of some state. -/
def Obligations.AHeldResetOutlastsEveryOtherCommand : Prop :=
  ∀ (c : Instr) (s : State) (cause : RestartCause), (∀ asserted, c ≠ .powerOn asserted) → c ≠ .resetInputRelease →
    ∃ t : State, exec c (s.holdReset cause) = .next (t.holdReset cause) ∧ { t with bays := s.bays } = s

/-- RESET and REPLY_SENT (R177, R181): the reply of a RESET joins the list and the reset hold is set; nothing else changes. A reply
that has been sent leaves the list; when the last one goes with the reset hold set, the hold is cleared and the reset takes
effect: a full reset, or a line stop with LINE_STOP and the events of the bays. That the millisecond base goes on through a full
reset, and what counts from it (the clause FullResetLeaves), are the model's choices (assumptions 5 and 14). -/
def Obligations.AResetRequestTakesEffectWithItsReply : Prop :=
  (∀ (s : State) (tag : Byte), s.attending →
     exec (.resetFull tag [0]) s = .next { s with link :=
       ⟨{}, s.link.transmit ++ [⟨0x82, tag, .plain .ok⟩], some .full⟩ } ∧
     exec (.resetLine tag [1]) s = .next { s with link :=
       ⟨{}, s.link.transmit ++ [⟨0x82, tag, .plain .ok⟩], some .line⟩ }) ∧
  (∀ (s : State) (x : Reply) (rest : List Reply), s.link.transmit = x :: rest →
     ((rest ≠ [] ∨ s.link.resetHold = none) →
       exec .replySent s = .next { s with link := { s.link with transmit := rest } }) ∧
     (rest = [] → s.link.resetHold = some .full → ∃ t, exec .replySent s = .next t ∧ FullResetLeaves .full s t) ∧
     (rest = [] → s.link.resetHold = some .line →
       ∃ t, exec .replySent s = .next t ∧
         LineStopLeaves { s with link := { s.link with transmit := [], resetHold := none } } t ∧ LineStopReports s t))

/-! ## The link -/

/-- R177, R178, R181: a completed frame that reaches a listening part in active operation is handled by the handler of its message
type, and its reply, of the request's type with the top bit set and of its tag, joins the tail of the transmit list. With the reset
hold set or the transmit list full, a completed or rejected frame is discarded: the receiver is back in HUNT, and nothing else
changes. -/
def Obligations.AFrameIsAnsweredOrDiscarded : Prop :=
  (∀ (c : Instr) (s : State) (type tag : Byte) (body : List Byte), c.frame = some (type, tag, body) → s.attending →
    exec c s = .next ((handlerOf type body s.hunt).1.reply
      ⟨if type.toNat ≤ 0x7E then type + 0x80 else 0xFE, tag, (handlerOf type body s.hunt).2⟩)) ∧
  (∀ (s : State), s.heldInReset = false → s.deaf →
    (∀ (c : Instr) (type tag : Byte) (body : List Byte), c.frame = some (type, tag, body) →
      exec c s = .next { s with link := { s.link with receiver := {} } }) ∧
    (∀ low high : Byte, 1024 < low.toNat + 256 * high.toNat →
      exec (.frameRejectedSize low high) s = .next { s with link := { s.link with receiver := {} } }))

/-- R121, R178 step 1: a frame that a listening part takes in shelf watch acts as though the watch had been ended first, by a
wake of cause link. A wake of any cause queues WOKEN, relights the lamps and returns to active operation; a pass in progress goes on,
and a scanner between passes selects row 0 at once. In active operation a wake does nothing. -/
def Obligations.AFrameEndsShelfWatchFirst : Prop :=
  (∀ (c : Instr) (s : State) (type tag : Byte) (body : List Byte), c.frame = some (type, tag, body) → s.listening →
    s.scanner.mode = .watch →
    exec c s = exec c (s.wake .link) ∧ (s.wake .link).attending ∧ (s.wake .link).lamps = { s.lamps with dark := false } ∧
    (s.wake .link).events = s.events.after s.settings.attention s.clock.ms s.clock.seconds (.woken .link)) ∧
  (∀ (s : State) (cause : WokenCause),
    (s.scanner.mode = .active → s.wake cause = s) ∧
    (s.scanner.mode = .watch →
      let awake : State := { s with
        events := s.events.after s.settings.attention s.clock.ms s.clock.seconds (.woken cause)
        scanner := { s.scanner with mode := .active }
        lamps := { s.lamps with dark := false } }
      (s.scanner.stage ≠ .betweenPasses → s.wake cause = awake) ∧
      (s.scanner.stage = .betweenPasses → s.wake cause = awake.selectRow 0)))

/-- R178 steps 2 to 4: a frame of a type that is no message type is answered with UNKNOWN_TYPE, in a reply of type 0xFE above
0x7E; a request whose body has none of the lengths of its type with LENGTH; and a request of one number that is out of its
range with RANGE. None of them changes anything. -/
def Obligations.AMalformedRequestIsAnsweredAndChangesNothing : Prop :=
  (∀ (s : State) (type tag : Byte) (body : List Byte), s.attending → type ∉ messageTypes →
     exec (.unknownType type tag body) s =
       .next (s.answered (if type.toNat ≤ 0x7E then type + 0x80 else 0xFE) tag (.plain .unknownType))) ∧
  (∀ (c : Instr) (s : State) (type tag : Byte) (body : List Byte) (lengths : List Nat),
     c.frame = some (type, tag, body) → s.attending → (type, lengths) ∈ bodyLengths → body.length ∉ lengths →
     exec c s = .next (s.answered (type + 0x80) tag (.plain .length))) ∧
  (∀ (c : Instr) (s : State) (type tag x : Byte) (n : Nat), c.frame = some (type, tag, [x]) → s.attending →
     (type, n) ∈ numberTypes → n ≤ x.toNat → exec c s = .next (s.answered (type + 0x80) tag (.plain .range)))

/-- R178: a request that is refused changes nothing but the link. -/
def Obligations.ARefusalChangesNothing : Prop :=
  ∀ (c : Instr) (s : State) (type tag : Byte) (body : List Byte), c.frame = some (type, tag, body) → s.attending →
    ∃ (t : State) (reply : ReplyBody), exec c s = .next t ∧
      t.link.transmit = s.link.transmit ++ [⟨if type.toNat ≤ 0x7E then type + 0x80 else 0xFE, tag, reply⟩] ∧
      (∀ status, reply = .plain status → status ≠ .ok → status ≠ .accepted →
        t = { s with link := { s.link with receiver := {}, transmit := t.link.transmit } })

/-- R175, R176: a frame whose gap timer expires, whose length lies above 1,024, or whose two check bytes give another number than
the check of its bytes, is answered by FRAME_REJECTED with reason GAP, SIZE or CHECK, and nothing else changes but, for the
gap, the clock (assumption 2). -/
def Obligations.ARejectedFrameIsAnsweredAndChangesNothing : Prop :=
  (∀ (s : State), s.listening →
     (∀ m, s.link.receiver.gapTimer = some m →
       exec .frameRejectedGap s = .next ((s.reach m).answered 0xFF 0 (.frameRejected .gap))) ∧
     (∀ low high : Byte, 1024 < low.toNat + 256 * high.toNat →
       exec (.frameRejectedSize low high) s = .next (s.answered 0xFF 0 (.frameRejected .size)))) ∧
  (∀ (s : State) (type tag : Byte) (body : List Byte) (check : BitVec 16), s.listening → body.length ≤ 1024 →
     crc16 (checkedBytes type tag body) ≠ check →
     exec (.frameRejectedCheck type tag body check) s = .next (s.answered 0xFF 0 (.frameRejected .check)))

/-- R173-R176: the receiver in HUNT, given the bytes of a frame of any type, tag and body of at most 1,024 bytes, completes exactly
that type, tag and body with the last byte, back in HUNT with its gap timer stopped; and not before: after any fewer of the bytes the
frame is still under assembly. -/
def Obligations.AFrameSentIsTheFrameReceived : Prop :=
  ∀ (type tag : Byte) (body : List Byte) (now : Moment), body.length ≤ 1024 →
    Receiver.receiveAll now (frameBytes type tag body) {} = ({}, .complete type tag body) ∧
    (∀ n, n < (frameBytes type tag body).length → (Receiver.receiveAll now ((frameBytes type tag body).take n) {}).2 = .pending)

/-- SYNC_BYTE (R175, R176): in HUNT a byte of 0xC3 begins a frame and starts the gap timer for 3 ms. Within a frame it begins nothing:
it joins the frame as any byte would, and the gap timer starts again. So it may be the first length byte; the type, or the tag, after
which comes the body, or the check of an empty one; a byte of the body, the last included; or the first check byte. As the second
length byte it makes the length greater than 1,024, and the frame is rejected with SIZE. As the last check byte it completes the frame,
which is then handled, or rejected with CHECK where the check differs. -/
def Obligations.ASyncByteBeginsAFrameOnlyInHunt : Prop :=
  ∀ (s : State), s.heldInReset = false →
    let frame := s.link.receiver.frame ++ [0xC3]
    let joins (stage : ReceiveStage) : Host.Outcome State Fault Refusal :=
      .next { s with link := { s.link with receiver := ⟨stage, frame, some (s.clock.ms + 3)⟩ } }
    (s.link.receiver.stage = .hunt →
      exec .syncByte s = .next { s with link := { s.link with receiver := ⟨.length, [0xC3], some (s.clock.ms + 3)⟩ } }) ∧
    (s.link.receiver.stage = .length →
      (frame.length < 3 → exec .syncByte s = joins .length) ∧
      (frame.length = 3 → exec .syncByte s = .next (s.rejectFrame .size))) ∧
    (s.link.receiver.stage = .header →
      (frame.length < 5 → exec .syncByte s = joins .header) ∧
      (5 ≤ frame.length → frameLength frame ≠ 0 → exec .syncByte s = joins .body) ∧
      (5 ≤ frame.length → frameLength frame = 0 → exec .syncByte s = joins .check)) ∧
    (s.link.receiver.stage = .body →
      (frame.length < 5 + frameLength frame → exec .syncByte s = joins .body) ∧
      (5 + frameLength frame ≤ frame.length → exec .syncByte s = joins .check)) ∧
    (s.link.receiver.stage = .check →
      (frame.length < 7 + frameLength frame → exec .syncByte s = joins .check) ∧
      (∀ (type tag : Byte) (body : List Byte), frame = frameBytes type tag body → body.length ≤ 1024 →
        exec .syncByte s = .next (s.request type tag (handlerOf type body))) ∧
      (∀ (type tag : Byte) (body : List Byte) (check : BitVec 16), body.length ≤ 1024 →
        frame = 0xC3 :: checkedBytes type tag body ++ bytes16 check.toNat → crc16 (checkedBytes type tag body) ≠ check →
        exec .syncByte s = .next (s.rejectFrame .check)))

/-! ## The part-wide requests -/

/-- STATUS (R179) and BAY_QUERY (R17): the reply holds the summary of the part as it stands, or the bay's state, program, debounced
levels, cause, request fields, identity, held grade, last result and result role, each where the bay's state has it. Nothing else
changes. -/
def Obligations.ThePartAndABayAreReported : Prop :=
  (∀ (s : State) (tag : Byte), s.attending →
    exec (.status tag []) s = .next (s.answered 0x81 tag (.partStatus
      { family := 0
        revision := 1
        seconds := s.clock.seconds
        watch := false
        bays := (List.finRange 16).map fun b => (s.bay b).state.name
        records := ((List.finRange 240).filter fun r => (s.record r).isSome).length
        strings := (List.finRange 6).map fun k => stringName (s.string k)
        depth := s.events.queue.length
        overflow := s.events.overflow }))) ∧
  (∀ (s : State) (tag : Byte) (b : BayNo), s.attending →
    ∃ r : BayReport, exec (.bayQuery tag [byte b]) s = .next (s.answered 0xA4 tag (.bay r)) ∧
      r.state = (s.bay b).state.name ∧ r.presence = (s.bay b).presence.debounced ∧
      r.clampClosed = (s.bay b).clampClosed.debounced ∧ r.resultRole = (s.bay b).resultRole ∧
      r.lastResult = (s.bay b).lastResult.map (fun l => ⟨l.outcome, l.grade, l.flags, l.record, l.position, l.endTime⟩) ∧
      (∀ c, r.cause = some c ↔ (s.bay b).state = .faulted c) ∧
      (∀ g, r.heldGrade = some g ↔ ∃ q x, (s.bay b).state = .hold q x ∧ x.grade = g) ∧
      (∀ q, r.request = some q ↔
        (∃ p, (s.bay b).state = .testing p ∧ p.request = q) ∨ ∃ x, (s.bay b).state = .hold q x) ∧
      (∀ p, (s.bay b).state = .testing p → r.identity = p.identity ∧
        ∃ x, r.program = some x ∧ x.abortPending = p.abortPending ∧ (x.phase, x.sub) = p.phase.report) ∧
      ((∀ p, (s.bay b).state ≠ .testing p) →
        r.program = none ∧ r.identity = (s.bay b).lastResult.bind LastResult.identity))

/-- R180 and its owners' rules: the values an item takes, its range and the constraint against another item (R2, R6, R10, R49, R51,
R59, R116, R117, R170, R182). A mode or function is 0 for its first name and 1 for its second. -/
def SettingTakes (x : Settings) (v : Nat) : Nat → Prop
  | 1 => 5 ≤ v ∧ v ≤ 200
  | 2 => 100 ≤ v ∧ v ≤ 2000
  | 3 => 500 ≤ v ∧ v ≤ 10000
  | 4 => 1000 ≤ v ∧ v ≤ 60000
  | 5 => 500 ≤ v ∧ v ≤ 20000
  | 6 => 60 ≤ v ∧ v ≤ 110 ∧ v < x.shutdown
  | 7 => 2 ≤ v ∧ v ≤ 20
  | 8 => 70 ≤ v ∧ v ≤ 120 ∧ x.derate < v
  | 9 => 5 ≤ v ∧ v ≤ 100
  | 10 => 60 ≤ v ∧ v ≤ 3600 ∧ 2 * v ≤ x.freshness
  | 11 => 120 ≤ v ∧ v ≤ 14400 ∧ 2 * x.sampleInterval ≤ v
  | 12 => 300 ≤ v ∧ v ≤ 7200
  | 13 => 3600 ≤ v ∧ v ≤ 604800
  | 14 => 100 ≤ v ∧ v ≤ 50000 ∧ v < x.reject
  | 15 => 101 ≤ v ∧ v ≤ 65535 ∧ x.downgrade < v
  | _ => v = 0 ∨ v = 1

/-- R49, R51, R180: what the part holds against a value of an item: a budget below the granted sum, or a start window while a grant,
a queue entry or a start time stands. -/
def SettingHeld (s : State) (v : Nat) : Nat → Prop
  | 4 => v < s.load.granted.toList.sum
  | 5 => (∃ b : BayNo, s.load.granted[b] ≠ 0) ∨ s.load.queue ≠ [] ∨ s.load.starts ≠ []
  | _ => False

/-- SETTING_WRITE and SETTING_READ (R180): a value outside its item's range or against another item is refused with RANGE, one
against what the part holds with IN_USE; any other value is in force from then on, and no other item changes. The writes of
the bus budget and of the attention mode have the further effects their owners' rules give (R49, R170). An item that is not one of
1 to 17 is neither read nor written, with RANGE. -/
def Obligations.ASettingWriteSetsItsItemAlone : Prop :=
  (∀ (s : State) (tag : Byte) (item v : Nat), s.attending → item < 256 → item = 0 ∨ 17 < item → v < 2 ^ 32 →
    exec (.settingRead tag [byte item]) s = .next (s.answered 0x84 tag (.plain .range)) ∧
    exec (.settingWrite tag (byte item :: bytes32 v)) s = .next (s.answered 0x83 tag (.plain .range))) ∧
  ∀ (s : State) (tag : Byte) (item v : Nat), s.attending → 1 ≤ item → item ≤ 17 → v < 2 ^ 32 →
    exec (.settingRead tag [byte item]) s = .next (s.answered 0x84 tag (.setting item (s.settings.read item))) ∧
    (¬ SettingTakes s.settings v item →
      exec (.settingWrite tag (byte item :: bytes32 v)) s = .next (s.answered 0x83 tag (.plain .range))) ∧
    (SettingTakes s.settings v item → SettingHeld s v item →
      exec (.settingWrite tag (byte item :: bytes32 v)) s = .next (s.answered 0x83 tag (.plain .inUse))) ∧
    (SettingTakes s.settings v item → ¬ SettingHeld s v item →
      ∃ x : Settings, x.read item = v ∧ (∀ j, 1 ≤ j → j ≤ 17 → j ≠ item → x.read j = s.settings.read j) ∧
        (item ≠ 4 → item ≠ 16 → exec (.settingWrite tag (byte item :: bytes32 v)) s =
          .next ((s.answered 0x83 tag (.setting item v)).setSettings x)) ∧
        (item = 4 → exec (.settingWrite tag (byte item :: bytes32 v)) s =
          .next (((s.answered 0x83 tag (.setting item v)).setSettings x).examine)) ∧
        (item = 16 → exec (.settingWrite tag (byte item :: bytes32 v)) s =
          .next (((s.answered 0x83 tag (.setting item v)).setSettings x).setEvents
            (if v = s.settings.read 16 then s.events else { s.events with pulseTimer := none }))))

/-- R165: EVENTS_TAKE of a count of 1 to 16 returns the oldest records, the overflow flag as it stood and the depth left, and the
records and the flag are gone; a take that empties the queue releases the attention output in LEVEL mode. Any other count is
refused with RANGE and changes nothing. In shelf watch the watch is ended first, so that the reply can hold its WOKEN. -/
def Obligations.ATakeReturnsTheOldestEvents : Prop :=
  ∀ (s : State) (tag x : Byte),
    (s.attending → exec (.eventsTake tag [x]) s =
      if 1 ≤ x.toNat ∧ x.toNat ≤ 16 then
        .next { s.answered 0x85 tag
            (.eventsTaken (s.events.queue.take x.toNat) s.events.overflow (s.events.queue.length - x.toNat)) with
          events := { s.events with queue := s.events.queue.drop x.toNat, overflow := false } }
      else .next (s.answered 0x85 tag (.plain .range))) ∧
    (s.attending → s.settings.attention = .level → 1 ≤ x.toNat → x.toNat ≤ 16 → s.events.queue.length ≤ x.toNat →
      ∃ t, exec (.eventsTake tag [x]) s = .next t ∧ t.attentionAsserted = false) ∧
    (s.listening → s.scanner.mode = .watch → exec (.eventsTake tag [x]) s = exec (.eventsTake tag [x]) (s.wake .link) ∧
      (s.wake .link).attending ∧
      (s.events.enables.system = true → s.events.queue.length < 64 →
        (s.wake .link).events.queue = s.events.queue ++ [⟨s.clock.seconds, .woken .link⟩]))

/-- EVENT_CLASSES (R167): each class on the enable list is enabled, each class on the disable list alone is disabled, and the
others keep their enables; the queue stays as it is. A list that names no class of the five is refused with RANGE. An event of a
disabled class leaves the part as it is; one of an enabled class joins the tail of a queue with room, starting the pulse timer for
1 ms in PULSE mode where the queue was empty; a full queue loses it and sets the overflow flag (R162, R164, R169). -/
def Obligations.EventsAreQueuedByTheirClass : Prop :=
  (∀ (s : State) (tag on off : Byte), s.attending →
    (on.toNat < 32 → off.toNat < 32 →
      exec (.eventClasses tag [on, off]) s =
        let e : ClassEnables := { bay := on.getLsbD 0 || (s.events.enables.bay && !off.getLsbD 0)
                                  load := on.getLsbD 1 || (s.events.enables.load && !off.getLsbD 1)
                                  pool := on.getLsbD 2 || (s.events.enables.pool && !off.getLsbD 2)
                                  string := on.getLsbD 3 || (s.events.enables.string && !off.getLsbD 3)
                                  system := on.getLsbD 4 || (s.events.enables.system && !off.getLsbD 4) }
        .next { s.answered 0x86 tag (.classes e) with events := { s.events with enables := e } }) ∧
    (32 ≤ on.toNat ∨ 32 ≤ off.toNat → exec (.eventClasses tag [on, off]) s = .next (s.answered 0x86 tag (.plain .range)))) ∧
  (∀ (s : State) (w : Happening),
    (s.events.enables.allows w.cls = false → s.raise w = s) ∧
    (s.events.enables.allows w.cls = true → s.events.queue.length < 64 →
      s.raise w = { s with events := { s.events with
        queue := s.events.queue ++ [⟨s.clock.seconds, w⟩]
        pulseTimer := if s.settings.attention = .pulse ∧ s.events.queue = [] then some (s.clock.ms + 1)
                      else s.events.pulseTimer } }) ∧
    (s.events.enables.allows w.cls = true → 64 ≤ s.events.queue.length →
      s.raise w = { s with events := { s.events with overflow := true } }))

/-- WATCH_ENTER (R118): with every bay EMPTY or SEATED the part is in shelf watch with its lamps darkened, the pass and the roles
going on as they stand; otherwise the request is refused with STATE. -/
def Obligations.WatchIsEnteredWithQuietBays : Prop :=
  ∀ (s : State) (tag : Byte), s.attending →
    ((∀ b, (s.bay b).state = .empty ∨ (s.bay b).state = .seated) →
      exec (.watchEnter tag []) s = .next { s.answered 0x87 tag (.plain .ok) with
        scanner := { s.scanner with mode := .watch, watchPeriod := s.settings.watchInterval }
        lamps := { s.lamps with dark := true } }) ∧
    (∀ b, (s.bay b).state ≠ .empty → (s.bay b).state ≠ .seated →
      exec (.watchEnter tag []) s = .next (s.answered 0x87 tag (.plain .state)))

/-- PROFILE_LOAD and PROFILE_READ (R64, R65): a profile whose breakpoints are 2,000 to 4,600 mV and rise strictly and whose coefficient
is at most 200 is written into its slot and read back as it was written, unless a TESTING bay's program names the slot (IN_USE); any
other is refused with RANGE, and reading an unloaded slot with ABSENT. -/
def Obligations.AProfileLoadedIsTheProfileRead : Prop :=
  ∀ (s : State) (tag : Byte) (k : SlotNo) (f : Profile), s.attending →
    (∀ b ∈ f.breakpoints.toList, b < 65536) → f.coefficient < 256 →
    let fits := (∀ i : Fin 21, 2000 ≤ f.breakpoints[i] ∧ f.breakpoints[i] ≤ 4600) ∧
      (∀ i : Fin 20, f.breakpoints[i.castSucc] < f.breakpoints[i.succ]) ∧ f.coefficient ≤ 200
    let used := ∃ b p, (s.bay b).state = .testing p ∧ p.request.profile = k
    (¬ fits → exec (.profileLoad tag (byte k :: f.bytes)) s = .next (s.answered 0x90 tag (.plain .range))) ∧
    (fits → used → exec (.profileLoad tag (byte k :: f.bytes)) s = .next (s.answered 0x90 tag (.plain .inUse))) ∧
    (fits → ¬ used → exec (.profileLoad tag (byte k :: f.bytes)) s =
      .next { s.answered 0x90 tag (.plain .ok) with profiles := s.profiles.set k (some f) }) ∧
    exec (.profileRead tag [byte k]) s =
      (match s.profiles[k] with
       | some g => .next (s.answered 0x91 tag (.profile g))
       | none => .next (s.answered 0x91 tag (.plain .absent)))

/-- R21: the ranges of a plan's fields, checked whatever the drain choice. -/
def PlanFits (p : Plan) : Prop :=
  (1000 ≤ p.restTime ∧ p.restTime ≤ 60000) ∧ (100 ≤ p.pulseCurrent ∧ p.pulseCurrent ≤ 30000) ∧
  (1000 ≤ p.pulseDuration ∧ p.pulseDuration ≤ 30000) ∧ (1000 ≤ p.recoveryTime ∧ p.recoveryTime ≤ 120000) ∧
  (100 ≤ p.drainCurrent ∧ p.drainCurrent ≤ 30000) ∧ (50 ≤ p.drainDepth ∧ p.drainDepth ≤ 800) ∧
  (2000 ≤ p.floorVoltage ∧ p.floorVoltage ≤ 4000) ∧ (60 ≤ p.timeLimit ∧ p.timeLimit ≤ 14400) ∧
  (10 ≤ p.settleWindow ∧ p.settleWindow ≤ 600) ∧ (1 ≤ p.stabilityBand ∧ p.stabilityBand ≤ 20) ∧
  (-20 ≤ p.windowLow ∧ p.windowLow ≤ 40) ∧ (0 ≤ p.windowHigh ∧ p.windowHigh ≤ 60) ∧ p.windowLow < p.windowHigh

/-- PLAN_LOAD and PLAN_READ (R21, R22): a plan within its ranges is written into its slot, unless a TESTING bay runs the slot
(IN_USE); one outside them is refused with RANGE, and reading an unloaded slot with ABSENT. -/
def Obligations.APlanLoadedIsThePlanRead : Prop :=
  ∀ (s : State) (tag : Byte) (k : SlotNo) (p : Plan), s.attending →
    p.restTime < 65536 → p.pulseCurrent < 65536 → p.pulseDuration < 65536 → p.recoveryTime < 2 ^ 32 →
    p.drainCurrent < 65536 → p.drainDepth < 65536 → p.floorVoltage < 65536 → p.timeLimit < 65536 → p.settleWindow < 65536 →
    p.stabilityBand < 256 → -128 ≤ p.windowLow → p.windowLow ≤ 127 → 0 ≤ p.windowHigh → p.windowHigh ≤ 127 →
    let used := ∃ b x, (s.bay b).state = .testing x ∧ x.request.plan = k
    (¬ PlanFits p → exec (.planLoad tag (byte k :: p.bytes)) s = .next (s.answered 0x92 tag (.plain .range))) ∧
    (PlanFits p → used → exec (.planLoad tag (byte k :: p.bytes)) s = .next (s.answered 0x92 tag (.plain .inUse))) ∧
    (PlanFits p → ¬ used → exec (.planLoad tag (byte k :: p.bytes)) s =
      .next { s.answered 0x92 tag (.plain .ok) with plans := s.plans.set k (some p) }) ∧
    exec (.planRead tag [byte k]) s =
      (match s.plans[k] with
       | some x => .next (s.answered 0x93 tag (.plan x))
       | none => .next (s.answered 0x93 tag (.plain .absent)))

/-- GRADE_LIMITS (R76): without a set the limits in force are read; with a set, they are replaced together where every limit lies
in its range and the sets are ordered, and otherwise stay as they were. -/
def Obligations.GradeLimitsAreReplacedTogether : Prop :=
  ∀ (s : State) (tag : Byte) (l : GradeLimits), s.attending →
    l.sohA < 65536 → l.sohB < 65536 → l.sohC < 65536 → l.rrA < 65536 → l.rrB < 65536 → l.rrC < 65536 →
    exec (.gradeLimitsRead tag [0]) s = .next (s.answered 0x94 tag (.limits s.limits)) ∧
    exec (.gradeLimits tag (1 :: l.bytes)) s =
      if (1 ≤ l.sohC ∧ l.sohC ≤ l.sohB ∧ l.sohB ≤ l.sohA ∧ l.sohA ≤ 1200) ∧
          (1 ≤ l.rrA ∧ l.rrA ≤ l.rrB ∧ l.rrB ≤ l.rrC ∧ l.rrC ≤ 9999) then
        .next { s.answered 0x94 tag (.limits l) with limits := l }
      else .next (s.answered 0x94 tag (.plain .range))

/-- R102, R173: POOL_IMPORT's fields one after another in the order of its rule, the optional ones behind their presence marks; of
the flags, those that may be wanted. -/
def ImportBody (f : ImportFacts) : List Byte :=
  out8 f.position ++ outOptional outIdentity f.identity ++ out8 f.profile ++ out8 f.cells ++ bytes32 f.nameplate
    ++ outGrade f.grade ++ outOptional (fun (c : Capacity) => bytes32 c.milliampHours) f.capacity
    ++ outOptional (fun (c : Capacity) => bytes16 c.health) f.capacity ++ bytes16 f.resistance ++ bytes16 f.ratio
    ++ out8 (2 * f.flags.sparse.toNat + 4 * f.flags.unsettled.toNat + 16 * f.flags.downgraded.toNat)
    ++ bytes32 f.gradedTime ++ bytes32 f.restVoltage

/-- R7, R102, R127, R153, R173: the bodies of BAY_RUN, STRING_BUILD, LAMP_PATTERN and POOL_IMPORT, with their fields written one
after another in the order of their rules, are read as those fields, for every field in its range. An import's flags are read as the
wanted ones of SPARSE, UNSETTLED and DOWNGRADED, with IMPORTED, and CAP_ABSENT exactly where the capacity is absent; grade R, and
grade A without a capacity, are out of range. -/
def Obligations.RequestBodiesReadBackTheirFields : Prop :=
  (∀ q : RunRequest, 1 ≤ q.cells → q.cells ≤ 24 → 1000 ≤ q.nameplate → q.nameplate ≤ 1000000 →
    1 ≤ q.nominal → q.nominal ≤ 65535 → bayRunFields q.bytes = .ok q) ∧
  (∀ q : StringRequest, 1 ≤ q.cells → q.cells ≤ 24 → 2 ≤ q.length → q.length ≤ 20 → q.capacityTolerance ≤ 100000 →
    q.resistanceTolerance ≤ 10000 → q.voltageTolerance ≤ 5000 → q.minGrade ≠ .r → stringBuildFields q.bytes = .ok q) ∧
  (∀ (n : PatternNo) (p : Pattern), p.valid = true → lampPatternFields (byte n :: 1 :: p.bytes) = .ok (n, some p)) ∧
  (∀ f : ImportFacts, 1 ≤ f.cells → f.cells ≤ 24 → 1000 ≤ f.nameplate → f.nameplate ≤ 1000000 → f.resistance ≤ 65535 →
    f.ratio ≤ 9999 → f.gradedTime < 2 ^ 32 → f.restVoltage ≤ 120000 →
    (∀ c, f.capacity = some c → c.milliampHours ≤ 1000000 ∧ c.health ≤ 1200) →
    (f.grade = .r ∨ (f.grade = .a ∧ f.capacity = none) → poolImportFields (ImportBody f) = .error .range) ∧
    (f.grade ≠ .r → (f.grade = .a → f.capacity ≠ none) → poolImportFields (ImportBody f) = .ok { f with flags :=
      { capAbsent := f.capacity.isNone, sparse := f.flags.sparse, unsettled := f.flags.unsettled
        downgraded := f.flags.downgraded, imported := true } }))

/-! ## Bays -/

/-- BAY_ENGAGE and BAY_RELEASE (R1, R5, R9): a bay's clamp is commanded closed exactly in ENGAGING, ENGAGED, TESTING, HOLD and
FAULTED. A SEATED bay becomes ENGAGING with its settle timer, and any other bay refuses to engage
with STATE. An ENGAGED, FAULTED or HOLD bay opens its clamp and is RELEASING for the release guard time; a HOLD bay leaves the
hold queue and discards its result and role with RESULT_DISCARDED; any other bay refuses the release with STATE.
ENGAGE_SETTLE_EXPIRY and RELEASE_GUARD_EXPIRY (R6, R10): at the expiry a bay whose debounced clamp level is closed is ENGAGED,
and one whose level is open faults with CLAMP_OPEN; after the guard time a bay is SEATED or EMPTY by its debounced presence. -/
def Obligations.ABaysClampClosesAndOpens : Prop :=
  (∀ (s : State) (b : BayNo), s.clampCommand b =
     match (s.bay b).state with
     | .engaging _ | .engaged | .testing _ | .hold _ _ | .faulted _ => true
     | .empty | .seated | .releasing _ => false) ∧
  (∀ (s : State) (tag : Byte) (b : BayNo), s.attending →
     ((s.bay b).state = .seated →
       exec (.bayEngage tag [byte b]) s = .next ((s.answered 0xA0 tag (.plain .ok)).setBay b
         { s.bay b with state := .engaging (s.clock.ms + s.settings.engageSettle) })) ∧
     ((s.bay b).state ≠ .seated → exec (.bayEngage tag [byte b]) s = .next (s.answered 0xA0 tag (.plain .state)))) ∧
  (∀ (s : State) (tag : Byte) (b : BayNo), s.attending →
     exec (.bayRelease tag [byte b]) s =
       match (s.bay b).state with
       | .engaged | .faulted _ => .next ((s.answered 0xA3 tag (.plain .ok)).setBay b
           { s.bay b with state := .releasing (s.clock.ms + s.settings.releaseGuard) })
       | .hold _ g => .next ((({ s.answered 0xA3 tag (.plain .ok) with
           holdQueue := s.holdQueue.filter (· != b) }).setBay b
           { s.bay b with state := .releasing (s.clock.ms + s.settings.releaseGuard), resultRole := .none }).raise
           (.resultDiscarded b g.grade))
       | .empty | .seated | .engaging _ | .testing _ | .releasing _ => .next (s.answered 0xA3 tag (.plain .state))) ∧
  (∀ (s : State) (b : BayNo) (m : Moment),
    ((s.bay b).state = .engaging m →
      ((s.bay b).clampClosed.debounced = true → exec (.engageSettleExpiry b) s =
        .next (((s.reach m).setBay b { s.bay b with state := .engaged }).raise (.bayEngaged b))) ∧
      ((s.bay b).clampClosed.debounced = false → exec (.engageSettleExpiry b) s =
        .next ((s.reach m).faultBay b .clampOpen))) ∧
    ((s.bay b).state = .releasing m →
      ((s.bay b).presence.debounced = true → exec (.releaseGuardExpiry b) s =
        .next (((s.reach m).setBay b { s.bay b with state := .seated }).raise (.baySeated b))) ∧
      ((s.bay b).presence.debounced = false → exec (.releaseGuardExpiry b) s =
        .next (((s.reach m).setBay b { s.bay b with state := .empty, resultRole := .none }).raise (.bayEmpty b)))))

/-- BAY_RUN (R7, R23, R25): the fields' failing status is answered; then a bay that is not ENGAGED refuses with STATE, an unloaded
plan or profile with ABSENT, and otherwise the bay is TESTING in IDENT, its read timer running for 500 ms, with its last
result and result role cleared. -/
def Obligations.AnEngagedBayRunsItsProgram : Prop :=
  ∀ (s : State) (tag : Byte) (body : List Byte), s.attending →
    exec (.bayRun tag body) s =
      match bayRunFields body with
      | .error status => .next (s.answered 0xA1 tag (.plain status))
      | .ok q =>
        if (s.bay q.bay).state ≠ .engaged then .next (s.answered 0xA1 tag (.plain .state))
        else if s.plans[q.plan] = none ∨ s.profiles[q.profile] = none then .next (s.answered 0xA1 tag (.plain .absent))
        else .next ((s.answered 0xA1 tag (.plain .accepted)).setBay q.bay
          { s.bay q.bay with
            state := .testing { request := q, phase := .ident (s.clock.ms + 500) false }
            lastResult := none
            resultRole := .none })

/-- BAY_ABORT (R8, R32, R43): without a program it is refused with STATE; in a pulse's load-on sub-states the abort is marked
pending; elsewhere, with the reply OK, the bay gives up its grant and its entry in the grant queue, waiting for its load or with it
on, and the program ends as ABORTED with TEST_DONE; the bay, ENGAGED, then holds neither grant nor grant entry (of a bay whose
grant, if any, stands beside no entry but a restore, as R52 and R55 have it). -/
def Obligations.AnAbortEndsOrMarksTheProgram : Prop :=
  ∀ (s : State) (tag : Byte) (b : BayNo), s.attending →
    (s.program b = none → exec (.bayAbort tag [byte b]) s = .next (s.answered 0xA2 tag (.plain .state))) ∧
    (∀ p, s.program b = some p →
      (p.phase.pulsing = true →
        exec (.bayAbort tag [byte b]) s = .next ((s.answered 0xA2 tag (.plain .accepted)).setBayState b
          (.testing { p with abortPending := true }))) ∧
      (p.phase.pulsing = false → s.load.granted[b] = 0 → (∀ e ∈ s.load.queue, e.bay ≠ b) →
        exec (.bayAbort tag [byte b]) s = .next (((s.answered 0xA2 tag (.plain .ok)).setBay b
          { s.bay b with
            state := .engaged
            lastResult := some ⟨.aborted, none, p.flags, p.identity, none, none, s.clock.seconds⟩ }).raise
          (.testDone b .aborted none none none))) ∧
      (p.phase.pulsing = false → (s.load.granted[b] = 0 ∨ ∀ e ∈ s.load.queue, e.bay = b → e.isRestore = true) →
        ∃ t, exec (.bayAbort tag [byte b]) s = .next t ∧ t.load.granted[b] = 0 ∧ (∀ e ∈ t.load.queue, e.bay ≠ b) ∧
          t.bay b = { s.bay b with
            state := .engaged
            lastResult := some ⟨.aborted, none, p.flags, p.identity, none, none, s.clock.seconds⟩ } ∧
          t = ((((s.hunt.returnGrant b).leaveGrantQueue b).setBay b (t.bay b)).raise (.testDone b .aborted none none none)).reply
            ⟨0xA2, tag, .plain .ok⟩))

/-- BAY_CONTACT_CHANGE and DEBOUNCE_EXPIRY (R2-R4, R10, R15, R18): a raw level that comes to differ from the debounced level starts
the contact's debounce timer afresh, and one that returns to it stops the timer; nothing else changes. At the expiry the debounced
level takes the raw level. A presence gained seats an EMPTY bay, and is recorded alone elsewhere. A presence lost empties a SEATED
or RELEASING bay and clears its result role, faults an ENGAGING, ENGAGED, TESTING or HOLD bay with PRESENCE_LOST, and is recorded
alone at an EMPTY or FAULTED one. Either ends a shelf watch, with WOKEN of cause bay after the bay's own event. A clamp that opens
faults an ENGAGED, TESTING or HOLD bay with CLAMP_OPEN; elsewhere it is recorded alone, as is one that closes. -/
def Obligations.ABayContactIsDebouncedAndActsOnItsBay : Prop :=
  (∀ (s : State) (b : BayNo) (level : Bool), s.heldInReset = false →
     ((s.bay b).presence.raw ≠ level → exec (.bayContactChange b .presence level) s = .next (s.setBay b { s.bay b with presence :=
       ⟨level, (s.bay b).presence.debounced,
         if level = (s.bay b).presence.debounced then none else some (s.clock.ms + s.settings.debounce)⟩ })) ∧
     ((s.bay b).clampClosed.raw ≠ level → exec (.bayContactChange b .clampClosed level) s = .next (s.setBay b
       { s.bay b with clampClosed := ⟨level, (s.bay b).clampClosed.debounced,
         if level = (s.bay b).clampClosed.debounced then none else some (s.clock.ms + s.settings.debounce)⟩ }))) ∧
  (∀ (s : State) (b : BayNo) (m : Moment),
     ((s.bay b).presence = ⟨true, false, some m⟩ →
       let present := (s.reach m).setBay b { s.bay b with presence := ⟨true, true, none⟩ }
       ((s.bay b).state = .empty → exec (.debounceExpiry b .presence) s = .next (((present.setBay b
         { s.bay b with presence := ⟨true, true, none⟩, state := .seated }).raise (.baySeated b)).wake .bay)) ∧
       ((s.bay b).state ≠ .empty → exec (.debounceExpiry b .presence) s = .next (present.wake .bay))) ∧
     ((s.bay b).presence = ⟨false, true, some m⟩ →
       let gone := (s.reach m).setBay b { s.bay b with presence := ⟨false, false, none⟩ }
       exec (.debounceExpiry b .presence) s =
         match (s.bay b).state with
         | .empty | .faulted _ => .next (gone.wake .bay)
         | .seated | .releasing _ => .next (((gone.setBay b { s.bay b with
             presence := ⟨false, false, none⟩, state := .empty, resultRole := .none }).raise (.bayEmpty b)).wake .bay)
         | .engaging _ | .engaged | .testing _ | .hold _ _ => .next ((gone.faultBay b .presenceLost).wake .bay)) ∧
     ((s.bay b).clampClosed = ⟨true, false, some m⟩ →
       exec (.debounceExpiry b .clampClosed) s = .next ((s.reach m).setBay b
         { s.bay b with clampClosed := ⟨true, true, none⟩ })) ∧
     ((s.bay b).clampClosed = ⟨false, true, some m⟩ →
       let opened := (s.reach m).setBay b { s.bay b with clampClosed := ⟨false, false, none⟩ }
       exec (.debounceExpiry b .clampClosed) s =
         match (s.bay b).state with
         | .engaged | .testing _ | .hold _ _ => .next (opened.faultBay b .clampOpen)
         | .empty | .seated | .engaging _ | .releasing _ | .faulted _ => .next opened))

/-- R14, R15, R163: a fault at a bay that is not FAULTED leaves it FAULTED with the cause, out of the hold and grant queues and
without a grant, its program ended as FAULTED or its HOLD result discarded, while the pool, the rack, the strings and the settings
stay as they are; at a FAULTED bay it changes nothing. After what the grant given up and the entry that leaves bring about, BAY_FAULT
is queued, and then TEST_DONE of FAULTED for a TESTING bay, or RESULT_DISCARDED for a HOLD bay. -/
def Obligations.AFaultTakesTheBayOutOfEveryQueue : Prop :=
  ∀ (s : State) (b : BayNo) (cause : FaultCause),
    (∀ first, (s.bay b).state = .faulted first → s.faultBay b cause = s) ∧
    ((∀ first, (s.bay b).state ≠ .faulted first) →
      (s.load.granted[b] = 0 ∨ ∀ e ∈ s.load.queue, e.bay = b → e.isRestore = true) →
      (((s.faultBay b cause).bay b).state = .faulted cause ∧ (s.faultBay b cause).load.granted[b] = 0 ∧
        (∀ e ∈ (s.faultBay b cause).load.queue, e.bay ≠ b) ∧ b ∉ (s.faultBay b cause).holdQueue ∧
        (∀ p, (s.bay b).state = .testing p → ((s.faultBay b cause).bay b).lastResult =
          some ⟨.faulted, none, p.flags, p.identity, none, none, s.clock.seconds⟩) ∧
        (∀ q g, (s.bay b).state = .hold q g → ((s.faultBay b cause).bay b).resultRole = .none) ∧
        { s.faultBay b cause with bays := s.bays, load := s.load, holdQueue := s.holdQueue, events := s.events } = s ∧
        (let left : State := { (s.returnGrant b).leaveGrantQueue b with holdQueue := s.holdQueue.filter (· != b) }
         s.faultBay b cause =
           match (s.bay b).state with
           | .testing p => ((left.setBay b { s.bay b with
               state := .faulted cause
               lastResult := some ⟨.faulted, none, p.flags, p.identity, none, none, s.clock.seconds⟩ }).raise
               (.bayFault b cause)).raise (.testDone b .faulted none none none)
           | .hold _ g => ((left.setBay b { s.bay b with state := .faulted cause, resultRole := .none }).raise
               (.bayFault b cause)).raise (.resultDiscarded b g.grade)
           | .empty | .seated | .engaging _ | .engaged | .releasing _ | .faulted _ =>
             (left.setBay b { s.bay b with state := .faulted cause }).raise (.bayFault b cause))))

/-! ## Test programs -/

/-- What a bay's request for a conversion does (R45): the program awaits it, and the arbiter has the bay's mark. -/
def ConversionAsked (b : BayNo) (p : Program) (s : State) : State :=
  { s.setBayState b (.testing { p with awaiting := true }) with arbiter := s.arbiter.askBay b s.clock.ms }

/-- TAG_READER_ANSWER and READ_TIMER_EXPIRY (R25, R26): in IDENT the first answer of the tag reader is kept and a later one
discarded; at the expiry of the read timer the program goes on to REST0, its rest timer running, where no identity was expected or
the one read is it, and otherwise the bay faults with IDENT_UNREAD or IDENT_MISMATCH.
REST_TIMER_EXPIRY, SETTLE_TIMER_EXPIRY, COOL_WAIT_TIMER_EXPIRY, MONITOR_TIMER_EXPIRY and DURATION_TIMER_EXPIRY (R27-R30, R39):
each asks for a conversion, the periodic ones only while no request of the bay is pending, their next expiry one second after
the last; the duration's end conversion waits for a pending monitor record.
The tag reader request is asserted exactly in IDENT before the reader's answer (R25). -/
def Obligations.IdentIsDecidedAndPhaseTimersAskForConversions : Prop :=
  (∀ (s : State) (b : BayNo) (p : Program) (m : Moment) (answered : Bool) (answer : Option Identity), s.program b = some p →
    p.phase = .ident m answered →
    exec (.tagReaderAnswer b answer) s = (if answered then .next s
      else .next (s.setBayState b (.testing { p with phase := .ident m true, identity := answer }))) ∧
    exec (.readTimerExpiry b) s =
      (if p.request.expected = none ∨ p.identity = p.request.expected then
        .next ((s.reach m).setBayState b (.testing { p with
          phase := .rest0 (some ((s.reach m).clock.ms + (s.planOf p.request).restTime)), awaiting := false }))
      else if p.identity = none then .next ((s.reach m).faultBay b .identUnread)
      else .next ((s.reach m).faultBay b .identMismatch))) ∧
  (∀ (s : State) (b : BayNo),
    s.tagRequest b = true ↔ ∃ p m, (s.bay b).state = .testing p ∧ p.phase = .ident m false) ∧
  (∀ (s : State) (b : BayNo) (p : Program) (m d : Moment) (tested : Bool), s.program b = some p →
    (p.phase = .rest0 (some m) →
      exec (.restTimerExpiry b) s = .next (ConversionAsked b { p with phase := .rest0 none } (s.reach m))) ∧
    (p.phase = .settle (some m) →
      exec (.settleTimerExpiry b) s = .next (ConversionAsked b { p with phase := .settle none } (s.reach m))) ∧
    (p.phase = .coolWait m → exec (.coolWaitTimerExpiry b) s =
      if s.arbiter.bayMarks[b] = true then
        .next ((s.reach m).setBayState b (.testing { p with phase := .coolWait (m + 1000) }))
      else .next (ConversionAsked b { p with phase := .coolWait (m + 1000) } (s.reach m))) ∧
    (p.phase = .pulseOn d m tested → exec (.monitorTimerExpiry b) s =
      if s.arbiter.bayMarks[b] = true then
        .next ((s.reach m).setBayState b (.testing { p with phase := .pulseOn d (m + 1000) tested }))
      else .next (ConversionAsked b { p with phase := .pulseOn d (m + 1000) tested } (s.reach m))) ∧
    (p.phase = .pulseOn m d tested → exec (.durationTimerExpiry b) s =
      if s.arbiter.bayMarks[b] = true then
        .next ((s.reach m).setBayState b (.testing { p with phase := .endWait tested false }))
      else .next (ConversionAsked b { p with phase := .endWait tested true } (s.reach m))))

/-- RECOVERY_TIMER_EXPIRY, SAMPLE_TIMER_EXPIRY and TIME_LIMIT_EXPIRY (R33-R38, R52): after the recovery a program with a drain in its
plan enters DRAIN with its counts at zero, and its start request joins the grant queue; without one the verdict follows. Every
250 ms a drain asks for a conversion, or counts an overrun where one is pending, the 41st setting SPARSE; at the time limit it
sets TIME_LIMITED, returns its grant and settles. -/
def Obligations.ADrainBeginsSamplesAndEndsInTime : Prop :=
  (∀ (s : State) (b : BayNo) (p : Program) (m : Moment), s.program b = some p → p.phase = .recover m →
     exec (.recoveryTimerExpiry b) s =
       if (s.planOf p.request).drain = true then
         .next (((s.reach m).setBayState b (.testing { p with
           phase := .drainWait, awaiting := false, charge := 0, overruns := 0, overrunsSince := 0 })).joinGrantQueue
           ⟨b, .drainStart, (s.planOf p.request).drainCurrent⟩)
       else .next ((s.reach m).verdict b p none)) ∧
  (∀ (s : State) (b : BayNo) (p : Program) (m d : Moment), s.program b = some p →
     (p.phase = .drainOn m d → exec (.sampleTimerExpiry b) s =
       if s.arbiter.bayMarks[b] = true then
         .next ((s.reach m).setBayState b (.testing { p with
           phase := .drainOn (m + 250) d
           overruns := p.overruns + 1
           overrunsSince := p.overrunsSince + 1
           flags := { p.flags with sparse := p.flags.sparse || decide (40 < p.overruns + 1) } }))
       else .next (ConversionAsked b { p with phase := .drainOn (m + 250) d } (s.reach m))) ∧
     (p.phase = .drainOn d m → exec (.timeLimitExpiry b) s =
       .next (((s.reach m).setBayState b (.testing { p with
         phase := .settle (some ((s.reach m).clock.ms + (s.planOf p.request).settleWindow * 1000))
         flags := { p.flags with timeLimited := true }
         awaiting := false
         settleCount := 0
         settleLatest := none
         settleBefore := none })).returnGrant b)))

/-- R9, R42, R43: a bay after a result: RELEASING for the release guard time with the auto-release choice yes, and ENGAGED with it
no. -/
def AfterResult (autoRelease : Bool) (s : State) : BayState :=
  if autoRelease = true then .releasing (s.clock.ms + s.settings.releaseGuard) else .engaged

/-- R83, R85: `q` is the lowest FREE position. -/
def LowestFreePosition (q : PositionNo) (s : State) : Prop :=
  (s.position q).state = .free ∧ ∀ i, i < q → (s.position i).state ≠ .free

/-- R81, R85: `r` is the lowest free record index. -/
def LowestFreeRecord (r : RecordNo) (s : State) : Prop := s.record r = none ∧ ∀ i, i < r → s.record i ≠ none

/-- R85: the record a graded result makes at position `q`: UNSHELVED, with the figures of the result, of its flags CAP_ABSENT, SPARSE
and UNSETTLED alone, the bay its origin, the result's rest voltage not sampled on the shelf, with no baseline or drift, and not
stale. -/
def GradedRecord (g : GradedResult) (q : PositionNo) : Record where
  state := .unshelved
  position := q
  identity := g.identity
  profile := g.profile
  cells := g.cells
  nameplate := g.nameplate
  grade := g.grade
  capacity := g.capacity
  resistance := g.resistance
  ratio := g.ratio
  flags := { capAbsent := g.flags.capAbsent, sparse := g.flags.sparse, unsettled := g.flags.unsettled }
  origin := .bay g.origin
  gradedTime := g.gradedTime
  restVoltage := g.restVoltage
  restTime := g.restTime
  sampled := false
  baseline := none
  drift := none
  stale := false

/-- R11, R41-R43: a verdict of grade R makes no record and leaves BAY_REJECT; one of A, B or C takes the lowest FREE position and
the lowest free record index, bound to each other, and leaves BAY_PASS; with no position FREE the bay is in HOLD at the tail of
the hold queue. Otherwise the bay is RELEASING or ENGAGED by its auto-release choice. -/
def Obligations.AVerdictPlacesTheModuleOrHoldsIt : Prop :=
  ∀ (s : State) (b : BayNo) (p : Program) (drained : Option SettleReading) (g : GradedResult),
    g = p.grade b (s.profileOf p.request) s.limits drained s.clock.seconds →
    (g.grade = .r → s.verdict b p drained = ((s.setBay b { s.bay b with
      state := AfterResult p.request.autoRelease s
      lastResult := some ⟨.graded, some .r, g.flags, g.identity, none, none, s.clock.seconds⟩
      resultRole := .bayReject }).raise (.testDone b .graded (some .r) none none))) ∧
    (g.grade ≠ .r → (∀ q, (s.position q).state ≠ .free) → s.verdict b p drained = (({ s with holdQueue := s.holdQueue ++ [b] }).setBay b
      { s.bay b with
        state := .hold p.request g
        lastResult := some ⟨.graded, some g.grade, g.flags, g.identity, none, none, s.clock.seconds⟩
        resultRole := .bayPass }).raise (.bayHold b g.grade)) ∧
    (∀ (r : RecordNo) (q : PositionNo), g.grade ≠ .r → LowestFreeRecord r s → LowestFreePosition q s →
      s.verdict b p drained = (((s.setRecord r (some (GradedRecord g q))).setPositionState q (.assigned r)).setBay b
        { s.bay b with
          state := AfterResult p.request.autoRelease s
          lastResult := some ⟨.graded, some g.grade, g.flags, g.identity, some r, some q, s.clock.seconds⟩
          resultRole := .bayPass }).raise (.testDone b .graded (some g.grade) (some r) (some q)))

/-- R47: the part as a conversion's record reaches its bay: its moment has come, and the bay's mark is clear. -/
def RecordReaches (b : BayNo) (m : Moment) (s : State) : State :=
  { s.reach m with arbiter := { s.arbiter with bayMarks := s.arbiter.bayMarks.set b false } }

/-- R47: once the record of requester `r` has been used the converter is free, the pointer is past `r`, and the next grant is made. -/
def ConverterMovesOn (r : Requester) (s : State) : State :=
  s.setArbiter (Arbiter.grantNext s.clock.ms { s.arbiter with converter := .free, askedAt := none, pointer := r.following })

/-- CONVERSION_COMPLETE at a bay that awaits no record (R24, R47): the record is discarded; the bay's mark is cleared, the pointer
moves on past it, and the converter goes to the next requester marked, or is free. -/
def Obligations.ARecordNobodyAwaitsIsDiscarded : Prop :=
  ∀ (s : State) (b : BayNo) (m : Moment) (v c : Nat) (t h : Int), s.arbiter.converter = .busy (.bay b) m →
    (∀ p, s.program b = some p → p.awaiting = false) →
    exec (.conversionComplete v c t h) s = .next (ConverterMovesOn (.bay b) (RecordReaches b m s))

/-- CONVERSION_COMPLETE in REST0 (R24, R27, R28, R42, R43, R57, R68): a heatsink at or above the shutdown threshold faults the bay;
otherwise the gate tests the voltage per cell against the profile's first and last breakpoints and then the module temperature
against the plan's window, both ends inside it. It rejects the module with grade R, the bay then RELEASING or ENGAGED by its
auto-release choice; or ends the program as TEMP_OUT, the bay ENGAGED; or keeps the reading and begins PULSE: in COOL_WAIT where the
heatsink is at or above the derate threshold, and below it with its start request in the grant queue: at the tail, in LOAD_WAIT,
where others wait; and in an empty queue granted at once, the load on and the phase timed from now, where the budget and the start
list have room, and waiting at the head where they have not (assumption 2 for the moment of the expiry). -/
def Obligations.TheRestReadingPassesTheGate : Prop :=
  ∀ (s : State) (b : BayNo) (p : Program) (m : Moment) (v c : Nat) (t h : Int), s.arbiter.converter = .busy (.bay b) m →
    s.program b = some p → p.awaiting = true → p.phase = .rest0 none →
    s.load.granted[b] = 0 → (∀ e ∈ s.load.queue, e.bay ≠ b) →
    let f := s.profileOf p.request
    let plan := s.planOf p.request
    let ended (o : TestOutcome) (g : Option Grade) : LastResult :=
      ⟨o, g, p.flags, p.identity, none, none, (s.reach m).clock.seconds⟩
    let reading : RestReading := ⟨v, t, h, (s.reach m).clock.seconds, stateOfCharge f v p.request.cells⟩
    let start : GrantEntry := ⟨b, .pulseStart, plan.pulseCurrent⟩
    let inPhase (phase : Phase) : Bay := { s.bay b with state := .testing { p with
      phase := phase
      awaiting := false
      rest := reading } }
    let room : Prop := s.load.granted.toList.sum + plan.pulseCurrent ≤ s.settings.busBudget ∧ s.load.starts.length < 4
    ∃ u, exec (.conversionComplete v c t h) s = .next u ∧
      (s.settings.shutdown ≤ h → (u.bay b).state = .faulted .heat) ∧
      (h < s.settings.shutdown →
        (v / p.request.cells < f.breakpoints[0] → u.bay b = { s.bay b with
          state := AfterResult p.request.autoRelease (s.reach m)
          lastResult := some (ended .rejectDeep (some .r))
          resultRole := .bayReject }) ∧
        (f.breakpoints[0] ≤ v / p.request.cells →
          (f.breakpoints[20] + 50 < v / p.request.cells → u.bay b = { s.bay b with
            state := AfterResult p.request.autoRelease (s.reach m)
            lastResult := some (ended .rejectOver (some .r))
            resultRole := .bayReject }) ∧
          (v / p.request.cells ≤ f.breakpoints[20] + 50 →
            (t < plan.windowLow ∨ plan.windowHigh < t → u.bay b = { s.bay b with
              state := .engaged
              lastResult := some (ended .tempOut none) }) ∧
            (plan.windowLow ≤ t → t ≤ plan.windowHigh →
              (s.settings.derate ≤ h → u.bay b = inPhase (.coolWait ((s.reach m).clock.ms + 1000))) ∧
              (h < s.settings.derate →
                (s.load.queue ≠ [] →
                  u.bay b = inPhase .pulseWait ∧ u.load = { s.load with queue := s.load.queue ++ [start] }) ∧
                (s.load.queue = [] → ¬ room → u.bay b = inPhase .pulseWait ∧ u.load = { s.load with queue := [start] }) ∧
                (s.load.queue = [] → room →
                  u.bay b = inPhase
                    (.pulseOn ((s.reach m).clock.ms + plan.pulseDuration) ((s.reach m).clock.ms + 1000) false) ∧
                  u.load = { s.load with
                    granted := s.load.granted.set b plan.pulseCurrent
                    starts := s.load.starts ++ [(s.reach m).clock.ms] }))))))

/-- CONVERSION_COMPLETE in PULSE (R24, R28-R31, R57, R69-R71). At the end of the pulse the grant is returned, and then the first of
these decides: HEAT, an abort pending, PULSE_NO_DROP, LOAD_SHORTFALL, TEMP_OUT; otherwise the resistance figures are kept and RECOVER
begins. In COOL_WAIT and at a monitor record a heatsink at or above the shutdown threshold faults the bay with HEAT. Below it, the
first record of COOL_WAIT below the derate threshold puts the start request into the grant queue; the first monitor record of the
pulse faults the bay with LOAD_SHORTFALL where its current is below half the pulse current, and later ones are not tested; and a
monitor record in END_WAIT is used in the same way before the end conversion is asked for. -/
def Obligations.TheReadingsOfAPulseAreJudged : Prop :=
  (∀ (s : State) (b : BayNo) (p : Program) (m : Moment) (tested : Bool) (v c : Nat) (t h : Int),
    s.arbiter.converter = .busy (.bay b) m → s.program b = some p → p.awaiting = true → p.phase = .endWait tested true →
    (∀ e ∈ s.load.queue, e.bay ≠ b) →
    ∃ u, exec (.conversionComplete v c t h) s = .next u ∧ u.load.granted[b] = 0 ∧
      (u.bay b).state =
        (if s.settings.shutdown ≤ h then .faulted .heat
         else if p.abortPending = true then .engaged
         else if p.rest.voltage ≤ v then .faulted .pulseNoDrop
         else if c * 2 < (s.planOf p.request).pulseCurrent then .faulted .loadShortfall
         else if t < (s.planOf p.request).windowLow ∨ (s.planOf p.request).windowHigh < t then .engaged
         else .testing { p with
           phase := .recover ((s.reach m).clock.ms + (s.planOf p.request).recoveryTime)
           awaiting := false
           pulse := ⟨v, c, t,
             resistanceAt25 (measuredResistance p.rest.voltage v c) (s.profileOf p.request).coefficient t,
             resistanceRatio (resistanceAt25 (measuredResistance p.rest.voltage v c)
               (s.profileOf p.request).coefficient t) p.request.nominal⟩ })) ∧
  (∀ (s : State) (b : BayNo) (p : Program) (m d n : Moment) (tested : Bool) (v c : Nat) (t h : Int),
    s.arbiter.converter = .busy (.bay b) m → s.program b = some p → p.awaiting = true →
    let reached := (RecordReaches b m s).setBayState b (.testing { p with awaiting := false })
    let pulseCurrent := (s.planOf p.request).pulseCurrent
    let used (x : State) : Prop := exec (.conversionComplete v c t h) s = .next (ConverterMovesOn (.bay b) x)
    (p.phase = .coolWait n →
      (s.settings.shutdown ≤ h → used (reached.faultBay b .heat)) ∧
      (h < s.settings.shutdown → s.settings.derate ≤ h → used reached) ∧
      (h < s.settings.shutdown → h < s.settings.derate →
        used ((reached.setBayState b (.testing { p with phase := .pulseWait, awaiting := false })).joinGrantQueue
          ⟨b, .pulseStart, pulseCurrent⟩))) ∧
    (p.phase = .pulseOn d n tested →
      (s.settings.shutdown ≤ h → used (reached.faultBay b .heat)) ∧
      (h < s.settings.shutdown → tested = false → c * 2 < pulseCurrent → used (reached.faultBay b .loadShortfall)) ∧
      (h < s.settings.shutdown → (tested = true ∨ pulseCurrent ≤ c * 2) →
        used (reached.setBayState b (.testing { p with phase := .pulseOn d n true, awaiting := false })))) ∧
    (p.phase = .endWait tested false →
      (s.settings.shutdown ≤ h → used (reached.faultBay b .heat)) ∧
      (h < s.settings.shutdown → tested = false → c * 2 < pulseCurrent → used (reached.faultBay b .loadShortfall)) ∧
      (h < s.settings.shutdown → (tested = true ∨ pulseCurrent ≤ c * 2) →
        used (ConversionAsked b { p with phase := .endWait true true } reached))))

/-- CONVERSION_COMPLETE in DRAIN and SETTLE (R24, R36, R38-R40, R57). A heatsink at or above the shutdown threshold faults the bay with
HEAT. Below it, a record of a drain goes through the thermal check, and its current is added to Q once and once more for each overrun
since the last; then the module temperature may fault the bay with MODULE_HOT, or the charge target or the floor end the drain: its
grant is returned and SETTLE begins, timed from now. A settle record is stable where it differs from the one before it by no more
than the stability band times the cells, in either direction: a stable one is V1 of the verdict; one that is not starts the next
window, and at the sixth is V1 with UNSETTLED set. -/
def Obligations.ADrainIsCountedAndSettles : Prop :=
  ∀ (s : State) (b : BayNo) (p : Program) (m : Moment) (v c : Nat) (t h : Int),
    s.arbiter.converter = .busy (.bay b) m → s.program b = some p → p.awaiting = true →
    let plan := s.planOf p.request
    let reached := (RecordReaches b m s).setBayState b (.testing { p with awaiting := false })
    let window := some ((s.reach m).clock.ms + plan.settleWindow * 1000)
    let used (x : State) : Prop := exec (.conversionComplete v c t h) s = .next (ConverterMovesOn (.bay b) x)
    (∀ sample limit, p.phase = .drainOn sample limit →
      let q : Program := { p with awaiting := false, charge := p.charge + c * (1 + p.overrunsSince), overrunsSince := 0 }
      let counted := (reached.drainThermal b plan.drainCurrent h).setBayState b (.testing q)
      let target := p.request.nameplate * plan.drainDepth * 1440 ≤ q.charge * 1000
      let floor := v / p.request.cells < plan.floorVoltage
      (s.settings.shutdown ≤ h → used (reached.faultBay b .heat)) ∧
      (h < s.settings.shutdown →
        (plan.windowHigh + 10 < t → used (counted.faultBay b .moduleHot)) ∧
        (t ≤ plan.windowHigh + 10 →
          (target ∨ floor → used ((counted.setBayState b (.testing { q with
            phase := .settle window, settleCount := 0, settleLatest := none, settleBefore := none })).returnGrant b)) ∧
          (¬ target → ¬ floor → used counted)))) ∧
    (p.phase = .settle none →
      let new : SettleReading := ⟨v, (s.reach m).clock.seconds⟩
      let q : Program := { p with
        awaiting := false, settleCount := p.settleCount + 1, settleBefore := p.settleLatest, settleLatest := some new }
      let stable := ∃ x, p.settleLatest = some x ∧
        x.voltage ≤ v + plan.stabilityBand * p.request.cells ∧ v ≤ x.voltage + plan.stabilityBand * p.request.cells
      (s.settings.shutdown ≤ h → used (reached.faultBay b .heat)) ∧
      (h < s.settings.shutdown →
        (stable → used (reached.verdict b q (some new))) ∧
        (¬ stable → p.settleCount + 1 < 6 → used (reached.setBayState b (.testing { q with phase := .settle window }))) ∧
        (¬ stable → 6 ≤ p.settleCount + 1 →
          used (reached.verdict b { q with flags := { q.flags with unsettled := true } } (some new)))))

/-! ## The converter and the load bus -/

/-- R45, R46: a free converter with a mark set is granted, for 2 ms, to the first marked requester in cyclic order from the pointer:
none of those before it is marked; the marks and the pointer stay. A busy converter, or one with no mark set, stays as it is. A
request that comes to a free converter is granted at once by that search; requests that come together are served in pointer order,
whichever is taken first; and one that comes to a converter already busy waits with its mark set. That requests come together where
they come at the same millisecond is the model's choice (assumption 29). -/
def Obligations.TheConverterGoesToTheNextMarkedRequester : Prop :=
  ∀ (a : Arbiter) (now : Moment),
    (∀ r d, a.converter = .busy r d → a.grantNext now = a) ∧
    (a.converter = .free → (∀ r, a.marked r = false) → a.grantNext now = a) ∧
    (a.converter = .free → ∀ w, a.marked w = true →
      ∃ r, a.grantNext now = { a with converter := .busy r (now + 2) } ∧ a.marked r = true ∧
        ∀ x, a.marked x = true →
          (r.place + 17 - a.pointer.place) % 17 ≤ (x.place + 17 - a.pointer.place) % 17) ∧
    (∀ (b c : BayNo) (p : PositionNo),
      (a.converter = .free →
        a.askBay b now = Arbiter.grantNext now { a with askedAt := some now, bayMarks := a.bayMarks.set b true } ∧
        a.askRack p now = Arbiter.grantNext now { a with askedAt := some now, rackMark := some p } ∧
        (a.askBay b now).askBay c now =
          Arbiter.grantNext now { a with askedAt := some now, bayMarks := (a.bayMarks.set b true).set c true } ∧
        (a.askBay b now).askRack p now =
          Arbiter.grantNext now { a with askedAt := some now, bayMarks := a.bayMarks.set b true, rackMark := some p } ∧
        (a.askRack p now).askBay b now = (a.askBay b now).askRack p now) ∧
      (∀ r d, a.converter = .busy r d → a.askedAt ≠ some now →
        a.askBay b now = { a with bayMarks := a.bayMarks.set b true } ∧ a.askRack p now = { a with rackMark := some p }))

/-- R53: both checks on the head of the grant queue: the granted sum with what the entry adds to it, a restore the increase over the
bay's granted current, stays within the budget in force; and, for a start, fewer than four times stand in the start list. -/
def HeadFits (e : GrantEntry) (s : State) : Prop :=
  match e.kind with
  | .restore _ => s.load.granted.toList.sum + (e.current - s.load.granted[e.bay]) ≤ s.settings.busBudget
  | .pulseStart | .drainStart => s.load.granted.toList.sum + e.current ≤ s.settings.busBudget ∧ s.load.starts.length < 4

/-- R49, R50, R53-R55: an examination of an empty queue, or of a head that does not fit, changes nothing; a head that fits leaves the
queue and is granted, and the head then is examined. So an examination grants entries from the head and stops at an empty queue or at
a head that does not fit; it never takes the granted sum above the budget or the start list above four, and changes only the load
bus, the bays told of their grants and the events. -/
def Obligations.AnExaminationGrantsWhileTheHeadFits : Prop :=
  ∀ s : State,
    (s.load.queue = [] → s.examine = s) ∧
    (∀ e rest, s.load.queue = e :: rest →
      (¬ HeadFits e s → s.examine = s) ∧
      (HeadFits e s → s.examine = (State.grantEntry e { s with load := { s.load with queue := rest } }).examine)) ∧
    (s.withinBudget → s.examine.withinBudget) ∧
    (s.load.starts.length ≤ 4 → s.examine.load.starts.length ≤ 4) ∧
    (∃ granted, s.load.queue = granted ++ s.examine.load.queue) ∧
    (∀ e rest, s.examine.load.queue = e :: rest →
      s.settings.busBudget < s.examine.load.grantedSum + s.examine.load.increase e ∨
        (e.isRestore = false ∧ 4 ≤ s.examine.load.starts.length)) ∧
    { s.examine with load := s.load, bays := s.bays, events := s.events } = s

/-- R29, R34, R50, R54, R55: a granted start turns its bay's load on and times the phase from the grant, and is a start at this
moment; a granted restore sets the full setpoint, clears the derated mark and queues DERATE_OFF. A bay's load draws its granted
current in LOAD_ON and END_WAIT of PULSE and in LOAD_ON of DRAIN, and is off in every other phase and state (R1). When the start
window has gone by since the oldest start (AGING_TIMER_EXPIRY), that start leaves the list and the head of the grant queue is
examined. -/
def Obligations.AGrantTurnsTheLoadOnAndAStartAges : Prop :=
  (∀ (s : State) (b : BayNo),
     ((∀ p, (s.bay b).state ≠ .testing p) → s.loadCurrent b = 0) ∧
     (∀ p, (s.bay b).state = .testing p → s.loadCurrent b =
       match p.phase with
       | .pulseOn _ _ _ | .endWait _ _ | .drainOn _ _ => s.load.granted[b]
       | .ident _ _ | .rest0 _ | .coolWait _ | .pulseWait | .recover _ | .drainWait | .settle _ => 0)) ∧
  (∀ (s : State) (b : BayNo) (p : Program) (current : Nat) (h : Int), s.program b = some p →
     (p.phase = .pulseWait → s.grantEntry ⟨b, .pulseStart, current⟩ =
       { s.setBayState b (.testing { p with
           phase := .pulseOn (s.clock.ms + (s.planOf p.request).pulseDuration) (s.clock.ms + 1000) false }) with
         load := { s.load with granted := s.load.granted.set b current, starts := s.load.starts ++ [s.clock.ms] } }) ∧
     (p.phase = .drainWait → s.grantEntry ⟨b, .drainStart, current⟩ =
       { s.setBayState b (.testing { p with
           phase := .drainOn (s.clock.ms + 250) (s.clock.ms + (s.planOf p.request).timeLimit * 1000) }) with
         load := { s.load with granted := s.load.granted.set b current, starts := s.load.starts ++ [s.clock.ms] } }) ∧
     s.grantEntry ⟨b, .restore h, current⟩ =
       ({ s with load := { s.load with granted := s.load.granted.set b current, derated := s.load.derated.set b none }
         }).raise (.derateOff b current h)) ∧
  (∀ (s : State) (oldest : Moment) (rest : List Moment), s.load.starts = oldest :: rest →
     exec .agingTimerExpiry s =
       .next ({ s.reach (oldest + s.settings.startWindow) with load := { s.load with starts := rest } }).examine)

/-- R49, R52, R54, R56-R58: what the thermal check does, below the shutdown threshold, to a drain with its load on. A bay that is not
derated is derated at or above the derate threshold: its granted current falls to half its setpoint, rounded down, with DERATE_ON, and
the head of the grant queue is examined. A derated bay with no restore waiting asks for one, at the tail of the grant queue, at or
below derate less hysteresis; one with a restore waiting withdraws it at or above the derate threshold. In every other case nothing
changes. A bay that returns its grant holds none, is not derated, and has no restore waiting; the head is examined. A bay whose entry
leaves the queue ungranted has none there, and the new head is examined where the entry stood at the head. -/
def Obligations.AHotDrainIsDeratedAndRestored : Prop :=
  (∀ (s : State) (b : BayNo) (current : Nat) (h : Int),
    (s.load.derated[b] = none →
      (h < s.settings.derate → s.drainThermal b current h = s) ∧
      (s.settings.derate ≤ h → current / 2 ≤ s.load.granted[b] → s.drainThermal b current h =
        (({ s with load := { s.load with
            granted := s.load.granted.set b (current / 2)
            derated := s.load.derated.set b (some current) } }).raise (.derateOn b current (current / 2) h)).examine)) ∧
    (∀ setpoint, s.load.derated[b] = some setpoint → (∀ e ∈ s.load.queue, e.isRestore = true → e.bay ≠ b) →
      ((s.settings.derate : Int) - s.settings.hysteresis < h → s.drainThermal b current h = s) ∧
      (h ≤ (s.settings.derate : Int) - s.settings.hysteresis →
        (s.load.queue = [] → s.drainThermal b current h =
          ({ s with load := { s.load with queue := [⟨b, .restore h, setpoint⟩] } }).examine) ∧
        (s.load.queue ≠ [] → s.drainThermal b current h =
          { s with load := { s.load with queue := s.load.queue ++ [⟨b, .restore h, setpoint⟩] } }))) ∧
    (∀ setpoint e, s.load.derated[b] = some setpoint → e ∈ s.load.queue → e.isRestore = true → e.bay = b →
      (h < s.settings.derate → s.drainThermal b current h = s) ∧
      (s.settings.derate ≤ h →
        let withdrawn : State := { s with load := { s.load with queue := s.load.queue.filter (·.bay != b) } }
        ((s.load.queue.head?.map (·.bay)) = some b → s.drainThermal b current h = withdrawn.examine) ∧
        ((s.load.queue.head?.map (·.bay)) ≠ some b → s.drainThermal b current h = withdrawn)))) ∧
  (∀ (s : State) (b : BayNo),
    (s.load.granted[b] = 0 → s.returnGrant b = s) ∧
    (s.load.granted[b] ≠ 0 → s.returnGrant b = ({ s with load := { s.load with
      granted := s.load.granted.set b 0
      derated := s.load.derated.set b none
      queue := s.load.queue.filter fun e => !(e.isRestore && e.bay == b) } }).examine) ∧
    (let left : State := { s with load := { s.load with queue := s.load.queue.filter (·.bay != b) } }
     ((s.load.queue.head?.map (·.bay)) = some b → s.leaveGrantQueue b = left.examine) ∧
     ((s.load.queue.head?.map (·.bay)) ≠ some b → s.leaveGrantQueue b = left)))

/-! ## The pool and the rack -/

/-- R84, R98: POOL_READ and POSITION_READ. A number out of range is refused with RANGE and a free index with ABSENT; otherwise the
reply holds the whole record, or the position's state, bound record, presence, mark and role, and nothing changes. -/
def Obligations.ARecordAndAPositionAreReadWhole : Prop :=
  ∀ (s : State) (tag x : Byte), s.attending →
    exec (.poolRead tag [x]) s =
      (if h : x.toNat < 240 then
        match s.record ⟨x.toNat, h⟩ with
        | some r => .next (s.answered 0xB0 tag (.record r))
        | none => .next (s.answered 0xB0 tag (.plain .absent))
      else .next (s.answered 0xB0 tag (.plain .range))) ∧
    exec (.positionRead tag [x]) s =
      (if h : x.toNat < 240 then
        .next (s.answered 0xB5 tag (.position
          { state := (s.position ⟨x.toNat, h⟩).state.name
            record := match (s.position ⟨x.toNat, h⟩).state with
              | .assigned r | .held r | .vacated r => some r
              | .free | .unknown => none
            present := (s.position ⟨x.toNat, h⟩).present
            pendingChange := (s.position ⟨x.toNat, h⟩).pendingChange
            role := s.positionRole ⟨x.toNat, h⟩ }))
      else .next (s.answered 0xB5 tag (.plain .range)))

/-- POOL_LIST (R99): the records in use whose state is in the filter, at or above the start index, in ascending index, twelve at
most, and the index after the twelfth where a thirteenth exists; a filter that names no state, or a start out of range, is
refused with RANGE. -/
def Obligations.AListHoldsTheLowestTwelveMatches : Prop :=
  ∀ (s : State) (tag filter : Byte) (start : Byte), s.attending →
    (filter.toNat = 0 ∨ 32 ≤ filter.toNat ∨ 240 ≤ start.toNat →
      exec (.poolList tag [filter, start]) s = .next (s.answered 0xB1 tag (.plain .range))) ∧
    (filter.toNat ≠ 0 → filter.toNat < 32 → start.toNat < 240 →
      let found := (List.finRange 240).filter fun r =>
        decide (start.toNat ≤ r.val) && (s.record r).any fun x => filter.getLsbD x.state.bit
      exec (.poolList tag [filter, start]) s = .next (s.answered 0xB1 tag (.recordList
        ((found.take 12).filterMap s.record)
        (if 12 < found.length then found[11]?.map fun r => r.val + 1 else none))))

/-- R102: the record an import makes: the facts supplied, the origin imported, the rest voltage taken at the import, not sampled on
the shelf, with no baseline or drift, and not stale. -/
def ImportedRecord (f : ImportFacts) (state : RecordState) (time : Seconds) : Record where
  state := state
  position := f.position
  identity := f.identity
  profile := f.profile
  cells := f.cells
  nameplate := f.nameplate
  grade := f.grade
  capacity := f.capacity
  resistance := f.resistance
  ratio := f.ratio
  flags := f.flags
  origin := .imported
  gradedTime := f.gradedTime
  restVoltage := f.restVoltage
  restTime := time
  sampled := false
  baseline := none
  drift := none
  stale := false

/-- POOL_IMPORT (R102): after its fields, a full table refuses with FULL and a position that is neither FREE nor UNKNOWN with
IN_USE; otherwise the record is made at the lowest free index, UNSHELVED with its position ASSIGNED, or AVAILABLE with its
position HELD and a candidate notice sent. -/
def Obligations.AnImportMakesARecord : Prop :=
  ∀ (s : State) (tag : Byte) (body : List Byte), s.attending →
    (∀ status, poolImportFields body = .error status →
      exec (.poolImport tag body) s = .next (s.answered 0xB2 tag (.plain status))) ∧
    (∀ f, poolImportFields body = .ok f →
      ((∀ r, s.record r ≠ none) → exec (.poolImport tag body) s = .next (s.answered 0xB2 tag (.plain .full))) ∧
      (∀ r, s.record r = none → (∀ i, i < r → s.record i ≠ none) →
        ((s.position f.position).state = .free → exec (.poolImport tag body) s =
          .next (((s.answered 0xB2 tag (.imported r .assigned)).setRecord r
            (some (ImportedRecord f .unshelved s.clock.seconds))).setPositionState f.position (.assigned r))) ∧
        ((s.position f.position).state = .unknown → exec (.poolImport tag body) s =
          .next (((((s.hunt).setRecord r (some (ImportedRecord f .available s.clock.seconds))).setPositionState f.position
            (.held r)).retryRound).reply ⟨0xB2, tag, .imported r .held⟩)) ∧
        ((s.position f.position).state ≠ .free → (s.position f.position).state ≠ .unknown →
          exec (.poolImport tag body) s = .next (s.answered 0xB2 tag (.plain .inUse)))))

/-- POOL_DELETE and POOL_PLACE (R100, R101): a RESERVED record is not deleted; deleting any other frees its index, and its position
becomes UNKNOWN with its module on the rack and FREE without, for the hold queue to take; an UNSHELVED record is placed at an
UNKNOWN position, its old position is freed, and the strings retry. -/
def Obligations.ARecordIsDeletedOrPlaced : Prop :=
  ∀ (s : State) (tag : Byte) (r : RecordNo) (p : PositionNo), s.attending →
    (s.record r = none → exec (.poolDelete tag [byte r]) s = .next (s.answered 0xB3 tag (.plain .absent)) ∧
      exec (.poolPlace tag [byte r, byte p]) s = .next (s.answered 0xB4 tag (.plain .absent))) ∧
    (∀ x, s.record r = some x →
      (∀ k slot, x.state = .reserved k slot →
        exec (.poolDelete tag [byte r]) s = .next (s.answered 0xB3 tag (.plain .inUse))) ∧
      (x.state = .available ∨ x.state = .rejected → exec (.poolDelete tag [byte r]) s =
        .next (((s.answered 0xB3 tag (.deleted x.position .unknown)).setRecord r none).setPositionState x.position .unknown)) ∧
      (x.state = .unshelved ∨ x.state = .absent →
        let freed := ((s.hunt.setRecord r none).setPositionState x.position .free).assignHeld
        exec (.poolDelete tag [byte r]) s =
          .next (freed.reply ⟨0xB3, tag, .deleted x.position (freed.position x.position).state.name⟩)) ∧
      (x.state ≠ .unshelved ∨ (s.position p).state ≠ .unknown → exec (.poolPlace tag [byte r, byte p]) s =
        .next (s.answered 0xB4 tag (.plain .state))) ∧
      (x.state = .unshelved → (s.position p).state = .unknown → exec (.poolPlace tag [byte r, byte p]) s =
        .next ((((((s.hunt.setRecord r (some { x with
            state := .available, position := p, stale := false, baseline := none, drift := none })).setPositionState p
          (.held r)).raise (.recordShelved r p)).setPositionState x.position .free).retryRound.assignHeld).reply
          ⟨0xB4, tag, .plain .ok⟩)))

/-- R87, R12: while a position is FREE and a bay waits in HOLD, the lowest FREE position goes to the bay at the head of the hold queue:
its record is made from the pending result at the lowest free index, and the bay leaves the queue with TEST_DONE, its last result
naming the record and position, and is RELEASING or ENGAGED by its auto-release choice; and so on for the new head. With no bay
waiting, or no position FREE, nothing changes. -/
def Obligations.AFreedPositionGoesToTheHoldQueue : Prop :=
  ∀ s : State,
    (s.holdQueue = [] → s.assignHeld = s) ∧ ((∀ p, (s.position p).state ≠ .free) → s.assignHeld = s) ∧
    (∀ (b : BayNo) (rest : List BayNo) (q : RunRequest) (g : GradedResult) (r : RecordNo) (p : PositionNo),
      s.holdQueue = b :: rest → (s.bay b).state = .hold q g → LowestFreeRecord r s → LowestFreePosition p s →
      s.assignHeld = State.assignHeld ((((({ s with holdQueue := rest }).setRecord r (some (GradedRecord g p))).setPositionState p
        (.assigned r)).setBay b
        { s.bay b with
          state := AfterResult q.autoRelease s
          lastResult := (s.bay b).lastResult.map fun l : LastResult => { l with record := some r, position := some p } }).raise
        (.testDone b .graded (some g.grade) (some r) (some p))))

/-- R87-R93, R135, R136: an arrival at a FREE position makes it UNKNOWN, at an ASSIGNED one shelves its record, and at a VACATED one
reseats it; the strings retry after either. A removal from an UNKNOWN position frees it; from a HELD one it leaves an AVAILABLE
record ABSENT and the position VACATED, deletes a REJECTED record, and picks a RESERVED record's slot and deletes it; a position freed
goes to the hold queue. The slot picked keeps its values, and takes the next order number of its string and the time, with
SLOT_PICKED; a string whose every slot is then PICKED is COMPLETE, with STRING_COMPLETE. -/
def Obligations.APresenceChangeActsByThePosition : Prop :=
  (∀ (s : State) (p : PositionNo),
    ((s.position p).state = .free → s.arrival p = (s.setPositionState p .unknown).raise (.unknownOccupant p)) ∧
    ((s.position p).state = .unknown → s.removal p = ((s.setPositionState p .free).raise (.occupantGone p)).assignHeld) ∧
    (∀ r x, s.record r = some x →
      ((s.position p).state = .assigned r → s.arrival p = (((s.setRecord r (some { x with
          state := .available, position := p, stale := false, baseline := none, drift := none })).setPositionState p
        (.held r)).raise (.recordShelved r p)).retryRound) ∧
      ((s.position p).state = .vacated r → s.arrival p = (((s.setRecord r (some { x with
          state := .available, flags := { x.flags with reseated := true }, baseline := none, drift := none })).setPositionState p
        (.held r)).raise (.reseated r p)).retryRound) ∧
      ((s.position p).state = .held r → x.state = .available → s.removal p = ((s.setRecord r (some { x with
          state := .absent, stale := false })).setPositionState p (.vacated r)).raise (.strayRemoval r p)) ∧
      ((s.position p).state = .held r → x.state = .rejected →
        s.removal p = (((s.setRecord r none).setPositionState p .free).raise (.rejectRemoved p r x.origin)).assignHeld) ∧
      (∀ k slot, (s.position p).state = .held r → x.state = .reserved k slot →
        s.removal p = (((s.pickSlot k slot p).setRecord r none).setPositionState p .free).assignHeld))) ∧
  (∀ (s : State) (k : StringNo) (slot : Nat) (p : PositionNo) (x : StringEntry) (r : RecordNo) (v : SlotValues),
    s.string k = some x → x.slots[slot]? = some (.reserved r v) →
    let order := (x.slots.filter fun y => y matches .picked ..).length + 1
    let slots := x.slots.set slot (.picked v order s.clock.seconds)
    let picked (y : Slot) : Prop := ∃ v n t, y = .picked v n t
    ((∃ y ∈ slots, ¬ picked y) →
      s.pickSlot k slot p = (s.setString k (some { x with slots := slots })).raise (.slotPicked k slot order p)) ∧
    ((∀ y ∈ slots, picked y) →
      s.pickSlot k slot p = ((s.setString k (some { x with slots := slots, state := .complete })).raise
        (.slotPicked k slot order p)).raise (.stringComplete k x.request.length)))

/-- DWELL_TIMER_EXPIRY, WATCH_TIMER_EXPIRY and PULSE_TIMER_EXPIRY (R83, R106-R108, R110, R119, R121, R169): contacts that all read as
their positions stand, with no change pending, end the visit, or leave it in TAIL while a sample is pending; the watch timer opens the
next pass at row 0; the pulse timer ends the pulse. The contacts of a row are read from column 0 on: one that differs once sets the
mark, one that agrees clears it, and one that differs with the mark set is a confirmed change, an arrival or a removal by its new
value, which the pool takes before a shelf watch ends with cause rack. -/
def Obligations.TheRackAndPulseTimersExpire : Prop :=
  (∀ (s : State) (m : Moment) (contacts : BitVec 24), s.scanner.dwellTimer = some m →
    (∀ c : ColumnNo, (s.position (positionAt s.scanner.row c)).present = contacts.getLsbD c.val ∧
      (s.position (positionAt s.scanner.row c)).pendingChange = false) →
    exec (.dwellTimerExpiry contacts) s =
      if s.arbiter.rackMark = none then .next ({ s.reach m with scanner := { s.scanner with dwellTimer := none } }).endVisit
      else .next { s.reach m with scanner := { s.scanner with dwellTimer := none, stage := .tail } }) ∧
  (∀ (s : State) (m : Moment) (contacts : BitVec 24), s.scanner.dwellTimer = some m →
    let read := (List.finRange 24).foldl (fun (t : State) c => t.readContact (positionAt s.scanner.row c) (contacts.getLsbD c.val))
      { s.reach m with scanner := { s.scanner with dwellTimer := none } }
    exec (.dwellTimerExpiry contacts) s =
      if read.arbiter.rackMark = none then .next read.endVisit
      else .next { read with scanner := { read.scanner with stage := .tail } }) ∧
  (∀ (s : State) (p : PositionNo) (raw : Bool),
    (raw = (s.position p).present → s.readContact p raw = s.setPosition p { s.position p with pendingChange := false }) ∧
    (raw ≠ (s.position p).present → (s.position p).pendingChange = false →
      s.readContact p raw = s.setPosition p { s.position p with pendingChange := true }) ∧
    (raw ≠ (s.position p).present → (s.position p).pendingChange = true →
      let confirmed := s.setPosition p { s.position p with present := raw, pendingChange := false }
      (raw = true → s.readContact p raw = (confirmed.arrival p).wake .rack) ∧
      (raw = false → s.readContact p raw = (confirmed.removal p).wake .rack))) ∧
  (∀ (s : State) (m : Moment), s.scanner.watchTimer = some m → (∀ c, (s.reach m).due (positionAt 0 c) = false) →
    exec .watchTimerExpiry s = .next { s.reach m with scanner := { s.scanner with
      row := 0
      stage := .dwell
      dwellTimer := some ((s.reach m).clock.ms + s.settings.rowDwell)
      lastColumn := none
      passStart := (s.reach m).clock.ms
      watchTimer := none } }) ∧
  (∀ (s : State) (m : Moment), s.events.pulseTimer = some m →
    exec .pulseTimerExpiry s = .next { s.reach m with events := { s.events with pulseTimer := none } })

/-- R95, R106, R107, R110-R112, R119: at the end of a visit the row's records are tested for staleness, in column order, and the next
row is selected. After row 9 the next pass begins at row 0: at once in active operation, and in shelf watch at the pass start time plus
the watch interval in force at entry, the scanner waiting between passes until then; that it selects row 0 at once where this is the
present moment is the model's choice (assumption 33). A row selected starts its dwell and makes its
first due test, and row 0 records the pass start; a due test asks for a sample at the lowest due column above the last one asked for,
if there is one. A CONVERSION_COMPLETE of the rack hands the sample to the pool, and is followed by the next due test during the
dwell and by the end of the visit in TAIL. -/
def Obligations.AVisitSamplesItsRowAndThePassGoesOn : Prop :=
  (∀ s : State,
    let marked := (List.finRange 24).foldl (fun (t : State) c => t.markStaleAt (positionAt s.scanner.row c)) s
    let next := s.scanner.passStart + s.scanner.watchPeriod * 1000
    (∀ h : s.scanner.row.val + 1 < 10, s.endVisit = marked.selectRow ⟨s.scanner.row + 1, h⟩) ∧
    (s.scanner.row = 9 → s.scanner.mode = .active ∨ next ≤ s.clock.ms → s.endVisit = marked.selectRow 0) ∧
    (s.scanner.row = 9 → s.scanner.mode = .watch → s.clock.ms < next → s.endVisit = { marked with
      scanner := { s.scanner with row := 0, stage := .betweenPasses, watchTimer := some next } })) ∧
  (∀ (s : State) (row : RowNo),
    s.selectRow row = State.dueTest { s with scanner := { s.scanner with
      row := row
      stage := .dwell
      dwellTimer := some (s.clock.ms + s.settings.rowDwell)
      lastColumn := none
      passStart := if row = 0 then s.clock.ms else s.scanner.passStart
      watchTimer := none } }) ∧
  (∀ s : State,
    let wanting (c : ColumnNo) : Prop := (∀ l, s.scanner.lastColumn = some l → l < c) ∧
      ∃ r x, (s.position (positionAt s.scanner.row c)).state = .held r ∧ s.record r = some x ∧
        (x.sampled = false ∨ x.restTime + s.settings.sampleInterval ≤ s.clock.seconds)
    ((∀ c, ¬ wanting c) → s.dueTest = s) ∧
    (∀ c, wanting c → (∀ d, d < c → ¬ wanting d) → s.dueTest = { s with
      scanner := { s.scanner with lastColumn := some c }
      arbiter := s.arbiter.askRack (positionAt s.scanner.row c) s.clock.ms })) ∧
  (∀ (s : State) (m : Moment) (p : PositionNo) (v c : Nat) (t h : Int), s.arbiter.converter = .busy .rack m →
    s.arbiter.rackMark = some p →
    let sampled := State.shelfSample p v { s.reach m with arbiter := { s.arbiter with rackMark := none } }
    (s.scanner.stage = .dwell →
      exec (.conversionComplete v c t h) s = .next (ConverterMovesOn .rack sampled.dueTest)) ∧
    (s.scanner.stage = .tail →
      exec (.conversionComplete v c t h) s = .next (ConverterMovesOn .rack sampled.endVisit)))

/-- R94 steps 3 and 4: what follows a sample of a record whose stale mark was set before: the mark is cleared with RECORD_FRESH, and
the strings retry where the record is AVAILABLE by then. Of a record whose mark was clear, nothing follows. -/
def Freshened (r : RecordNo) (wasStale : Bool) (s : State) : State :=
  if wasStale = false then s
  else
    match s.record r with
    | none => s.raise (.recordFresh r)
    | some x =>
      let fresh := (s.setRecord r (some { x with stale := false })).raise (.recordFresh r)
      if x.state = .available then fresh.retryRound else fresh

/-- R94: a record with a sample of `v` at the time `time`. -/
def WithSample (v : Nat) (time : Seconds) (x : Record) : Record := { x with restVoltage := v, restTime := time, sampled := true }

/-- R114: the drift of the sample `v` at the time `time` from the baseline `b`, of a record of `cells` cells. -/
def DriftSince (b : Baseline) (v : Nat) (time : Seconds) (cells : Nat) : Nat :=
  min ((b.voltage - v) * 86400000 / ((time - b.time) * cells)) 65535

/-- R94, R95, R112-R115: the first sample of a HELD record sets its baseline; a later one, past the minimum observation time,
stores the drift. Above the reject threshold an AVAILABLE record becomes REJECTED with grade R and SHELF_REJECT; at or below the
downgrade threshold, or in REJECTED, the grade stays. A record that was stale is fresh after the sample, with RECORD_FRESH, and the
strings retry for one that is AVAILABLE. A sample at a position that is not HELD changes nothing. At the end of a visit a record past
the freshness limit is marked, with RECORD_STALE, unless it is already. -/
def Obligations.AShelfSampleMeasuresTheDrift : Prop :=
  (∀ (s : State) (p : PositionNo) (v : Nat), (∀ r, (s.position p).state ≠ .held r) → s.shelfSample p v = s) ∧
  (∀ (s : State) (p : PositionNo) (r : RecordNo) (x : Record) (v : Nat), (s.position p).state = .held r →
    s.record r = some x →
    let y := WithSample v s.clock.seconds x
    let stored (z : Record) : Prop := s.shelfSample p v = Freshened r x.stale (s.setRecord r (some z))
    (x.baseline = none → stored { y with baseline := some ⟨v, s.clock.seconds⟩ }) ∧
    (∀ b, x.baseline = some b →
      let d := DriftSince b v s.clock.seconds x.cells
      (s.clock.seconds - b.time < s.settings.minObservation → stored y) ∧
      (s.settings.minObservation ≤ s.clock.seconds - b.time →
        (d ≤ s.settings.downgrade → d ≤ s.settings.reject → stored { y with drift := some d }) ∧
        (x.state = .rejected → stored { y with drift := some d }) ∧
        (s.settings.reject < d → x.state = .available → s.shelfSample p v = Freshened r x.stale
          ((s.setRecord r (some { y with drift := some d, state := .rejected, grade := .r })).raise
            (.shelfReject r x.position x.grade d))))) ∧
    s.markStaleAt p = (if x.stale = false ∧ s.settings.freshness < s.clock.seconds - x.restTime then
      (s.setRecord r (some { x with stale := true })).raise (.recordStale r) else s))

/-- R97, R115, R138, R139: what a drift does to the grade of an AVAILABLE or RESERVED record. Between the downgrade and the reject
threshold a record not DOWNGRADED before falls one step, from A to B or from B to C, with DOWNGRADED set and queued; from C it is
rejected, with DOWNGRADED set; and a record DOWNGRADED before keeps its grade. A reject of a RESERVED record vacates its slot first,
then makes the record REJECTED with grade R and SHELF_REJECT, and then repairs the string. A RESERVED record downgraded stays reserved
while its grade is at least its string's minimum; below it, it is AVAILABLE, its slot is VACANT, the string is repaired, and a round
of retries follows. -/
def Obligations.ADriftActsOnTheGrade : Prop :=
  ∀ (s : State) (p : PositionNo) (r : RecordNo) (x : Record) (v : Nat) (b : Baseline), (s.position p).state = .held r →
    s.record r = some x → x.baseline = some b → s.settings.minObservation ≤ s.clock.seconds - b.time →
    let d := DriftSince b v s.clock.seconds x.cells
    let y : Record := { WithSample v s.clock.seconds x with drift := some d }
    let lowered : Record := { y with grade := if x.grade = .a then .b else .c, flags := { x.flags with downgraded := true } }
    let vacated (k : StringNo) (slot : Nat) (t : State) : State :=
      match t.string k with
      | some e => t.setString k (some { e with slots := e.slots.set slot .vacant })
      | none => t
    let rejected (y : Record) (t : State) : State :=
      (t.setRecord r (some { y with state := .rejected, grade := .r })).raise (.shelfReject r x.position x.grade d)
    let after (t : State) : Prop := s.shelfSample p v = Freshened r x.stale t
    (∀ k slot, x.state = .reserved k slot → s.settings.reject < d →
      after ((rejected y (vacated k slot s)).repairString k)) ∧
    (s.settings.downgrade < d → d ≤ s.settings.reject → x.state = .available ∨ (∃ k slot, x.state = .reserved k slot) →
      (x.flags.downgraded = true → after (s.setRecord r (some y))) ∧
      (x.flags.downgraded = false → x.grade = .c →
        let y : Record := { y with flags := { x.flags with downgraded := true } }
        (x.state = .available → after (rejected y s)) ∧
        (∀ k slot, x.state = .reserved k slot → after ((rejected y (vacated k slot s)).repairString k))) ∧
      (x.flags.downgraded = false → x.grade = .a ∨ x.grade = .b →
        let downgraded := (s.setRecord r (some lowered)).raise (.downgraded r x.grade lowered.grade d)
        (x.state = .available → after downgraded) ∧
        (∀ k slot e, x.state = .reserved k slot → s.string k = some e →
          (lowered.grade.rank ≤ e.request.minGrade.rank → after downgraded) ∧
          (e.request.minGrade.rank < lowered.grade.rank → after
            ((vacated k slot (downgraded.setRecord r (some { lowered with state := .available }))).repairString k).retryRound))))

/-! ## Strings -/

/-- STRING_BUILD (R126, R127, R131, R132): a full table refuses with FULL; otherwise the lowest FREE entry is taken, WAITING where
no window of the eligible records qualifies, and PICKING otherwise, with slot i RESERVED for the i-th record of the chosen window
and that record RESERVED for it. Eligible are exactly the AVAILABLE, fresh records of the string's profile, cells and grade, in
CAPACITY mode with a capacity. -/
def Obligations.ABuiltStringReservesItsWindow : Prop :=
  ∀ (s : State) (tag : Byte) (body : List Byte), s.attending →
    (∀ status, stringBuildFields body = .error status →
      exec (.stringBuild tag body) s = .next (s.answered 0xC0 tag (.plain status))) ∧
    (∀ q, stringBuildFields body = .ok q →
      (∀ c : Candidate, c ∈ s.eligible q ↔ ∃ x, s.record c.record = some x ∧ c.values = x.values ∧ x.state = .available ∧
        x.stale = false ∧ x.profile = q.profile ∧ x.cells = q.cells ∧ x.grade.rank ≤ q.minGrade.rank ∧
        (q.mode = .capacity → x.capacity ≠ none)) ∧
      ((∀ k, s.string k ≠ none) → exec (.stringBuild tag body) s = .next (s.answered 0xC0 tag (.plain .full))) ∧
      (∀ k, s.string k = none → (∀ i, i < k → s.string i ≠ none) →
        (q.search (s.eligible q) = none → exec (.stringBuild tag body) s =
          .next ((s.answered 0xC0 tag (.stringBuilt k .waiting [])).setString k
            (some ⟨.waiting, q, s.clock.seconds, []⟩))) ∧
        (∀ w, q.search (s.eligible q) = some w → ∃ t, exec (.stringBuild tag body) s = .next t ∧
          t.string k = some ⟨.picking, q, s.clock.seconds, w.map fun c => .reserved c.record c.values⟩ ∧
          (∀ i c, w[i]? = some c → ∃ x, s.record c.record = some x ∧
            t.record c.record = some { x with state := .reserved k i }) ∧
          (∀ r, (∀ c ∈ w, c.record ≠ r) → t.record r = s.record r) ∧
          (∀ j, j ≠ k → t.string j = s.string j) ∧ t.positions = s.positions ∧
          t.events = s.events.after s.settings.attention s.clock.ms s.clock.seconds
            (.stringReserved k q.length (w.map Candidate.record)))))

/-- R128-R130: the search answers a window of the candidates in ascending order of the mode's figure, within every tolerance, whose
spread no other such window undercuts; at an equal spread none has a greater lowest capacity, or in RESISTANCE mode a lower lowest
resistance; and of windows equal on both it is the earliest: none before it in the order is equal to it in both. It answers none
exactly where no window qualifies. The order is a rearrangement of the candidates that leaves equal figures as they stood. -/
def Obligations.TheChosenWindowIsTheBest : Prop :=
  ∀ (q : StringRequest) (cs : List Candidate),
    (sortByPrimary q.mode cs).Perm cs ∧
    (sortByPrimary q.mode cs).Pairwise (fun c d => q.mode.primary c.values ≤ q.mode.primary d.values) ∧
    (∀ n, (sortByPrimary q.mode cs).filter (fun c => q.mode.primary c.values == n) =
      cs.filter (fun c => q.mode.primary c.values == n)) ∧
    (∀ w, 0 < q.length → (w ∈ windows q.length (sortByPrimary q.mode cs) ↔
      w.length = q.length ∧ w <:+: sortByPrimary q.mode cs)) ∧
    (q.search cs = none ↔ ∀ w ∈ windows q.length (sortByPrimary q.mode cs), q.within (w.map Candidate.values) = false) ∧
    (∀ w, q.search cs = some w →
      w ∈ windows q.length (sortByPrimary q.mode cs) ∧ q.within (w.map Candidate.values) = true ∧
      (∀ v ∈ windows q.length (sortByPrimary q.mode cs), q.within (v.map Candidate.values) = true →
        q.mode.windowSpread w ≤ q.mode.windowSpread v ∧
        (q.mode.windowSpread w = q.mode.windowSpread v →
          (q.mode = .capacity → q.mode.windowLowest v ≤ q.mode.windowLowest w) ∧
          (q.mode = .resistance → q.mode.windowLowest w ≤ q.mode.windowLowest v))) ∧
      ∃ before after, windows q.length (sortByPrimary q.mode cs) = before ++ w :: after ∧
        ∀ v ∈ before, q.within (v.map Candidate.values) = true →
          ¬ (q.mode.windowSpread v = q.mode.windowSpread w ∧ q.mode.windowLowest v = q.mode.windowLowest w))

/-- R140: that `answer` is the substitution of the VACANT slots of a slot list, the first of them numbered `i`, over a working set
of values and the eligible records not chosen yet. Each VACANT slot takes, in ascending slot number, a record that keeps the working
set within every tolerance, of the smallest spread of the mode's figure among those that do, and at an equal spread of the lowest
index; it joins the working set before the next slot is looked at. Where no record keeps the tolerances there is no substitution. -/
def SubstitutionIs (q : StringRequest) : Nat → List Slot → List SlotValues → List Candidate →
    Option (List (Nat × Candidate)) → Prop
  | _, [], _, _, answer => answer = some []
  | i, .vacant :: slots, working, left, answer =>
    ((∀ c ∈ left, q.within (c.values :: working) = false) ∧ answer = none) ∨
    ∃ c ∈ left, q.within (c.values :: working) = true ∧
      (∀ d ∈ left, q.within (d.values :: working) = true →
        spread q.mode.primary (c.values :: working) ≤ spread q.mode.primary (d.values :: working) ∧
        (spread q.mode.primary (c.values :: working) = spread q.mode.primary (d.values :: working) →
          c.record.val ≤ d.record.val)) ∧
      ∃ rest, SubstitutionIs q (i + 1) slots (c.values :: working) (left.filter fun d => d.record != c.record) rest ∧
        answer = rest.map ((i, c) :: ·)
  | i, .reserved _ _ :: slots, working, left, answer => SubstitutionIs q (i + 1) slots working left answer
  | i, .picked _ _ _ :: slots, working, left, answer => SubstitutionIs q (i + 1) slots working left answer

/-- R131, R141: the records of a list of slots and candidates are reserved for a string in their slots, with the slot list and the
events given; no other record, string or position changes, nor any other block. -/
def ReservedFor (k : StringNo) (e : StringEntry) (fills : List (Nat × Candidate)) (events : List Happening) (s t : State) : Prop :=
  t.string k = some e ∧
  (∀ i c, (i, c) ∈ fills → ∃ x, s.record c.record = some x ∧ t.record c.record = some { x with state := .reserved k i }) ∧
  (∀ r, (∀ i c, (i, c) ∈ fills → c.record ≠ r) → t.record r = s.record r) ∧
  (∀ j, j ≠ k → t.string j = s.string j) ∧ t.events = (s.raiseAll events).events ∧
  { t with records := s.records, strings := s.strings, events := s.events } = s

/-- R134, R139-R142: substitution, repair and the round of retries. A substitution chooses for every VACANT slot or for none, against
the values of the RESERVED and PICKED slots. Committed, it makes each slot RESERVED with its record and its values, and each record
RESERVED, with SLOT_REPLACED for each slot, and the string PICKING. A repair that finds none leaves the string BLOCKED, with
STRING_BLOCKED and the count of VACANT slots. A round takes the strings in ascending number, each on the pool the one before it left:
it searches for a WAITING string and reserves the window it finds, with STRING_RESERVED, substitutes for a BLOCKED one, and leaves
every other string, and one for which nothing is found, as it is. -/
def Obligations.StringsAreRepairedAndRetried : Prop :=
  (∀ (s : State) (x : StringEntry),
    SubstitutionIs x.request 0 x.slots
      (x.slots.filterMap fun slot => match slot with
        | .reserved _ v => some v
        | .picked v _ _ => some v
        | .vacant => none)
      (s.eligible x.request) (s.findSubstitutes x)) ∧
  (∀ (s : State) (k : StringNo) (x : StringEntry) (fills : List (Nat × Candidate)), s.findSubstitutes x = some fills →
    ReservedFor k { x with
        state := .picking
        slots := fills.foldl (fun l f => l.set f.1 (.reserved f.2.record f.2.values)) x.slots }
      fills (fills.map fun f => .slotReplaced k f.1 f.2.record) s (s.fillSlots k x fills)) ∧
  (∀ (s : State) (k : StringNo),
    (s.string k = none → s.repairString k = s ∧ s.retryString k = s) ∧
    (∀ x, s.string k = some x →
      (∀ fills, s.findSubstitutes x = some fills → s.repairString k = s.fillSlots k x fills) ∧
      (s.findSubstitutes x = none → s.repairString k =
        (s.setString k (some { x with state := .blocked })).raise (.stringBlocked k (x.slots.filter (· == .vacant)).length)) ∧
      (x.state = .picking ∨ x.state = .complete → s.retryString k = s) ∧
      (x.state = .blocked →
        (∀ fills, s.findSubstitutes x = some fills → s.retryString k = s.fillSlots k x fills) ∧
        (s.findSubstitutes x = none → s.retryString k = s)) ∧
      (x.state = .waiting →
        (x.request.search (s.eligible x.request) = none → s.retryString k = s) ∧
        (∀ w, x.request.search (s.eligible x.request) = some w →
          ReservedFor k { x with state := .picking, slots := w.map fun c => .reserved c.record c.values }
            (w.mapIdx fun i c => (i, c)) [.stringReserved k x.request.length (w.map Candidate.record)] s (s.retryString k))))) ∧
  (∀ s : State, s.retryRound =
    (((((s.retryString 0).retryString 1).retryString 2).retryString 3).retryString 4).retryString 5)

/-- STRING_READ, STRING_CANCEL and STRING_CLOSE (R143-R145): a read answers the entry and changes nothing; a cancel of a FREE entry
and a close of one that is not COMPLETE are refused with STATE; a cancel releases every reservation, frees the entry and lets the
other strings retry; a close answers the request and the slots and frees the entry. A release makes the record of each RESERVED slot
AVAILABLE, and changes no other record and nothing else. That a read of a WAITING entry answers the PICKED and VACANT counts and the
NEXT_PICK slot as well (0, 0 and absent) is the model's choice (assumption 31). -/
def Obligations.AStringIsReadCancelledOrClosed : Prop :=
  (∀ (s : State) (slots : List Slot),
    (∀ r v k i x, .reserved r v ∈ slots → s.record r = some x → x.state = .reserved k i →
      (s.releaseSlots slots).record r = some { x with state := .available }) ∧
    (∀ r, (∀ v, .reserved r v ∉ slots) → (s.releaseSlots slots).record r = s.record r) ∧
    { s.releaseSlots slots with records := s.records } = s) ∧
  ∀ (s : State) (tag : Byte) (k : StringNo), s.attending →
    (s.string k = none →
      exec (.stringRead tag [byte k]) s = .next (s.answered 0xC1 tag (.string none)) ∧
      exec (.stringCancel tag [byte k]) s = .next (s.answered 0xC2 tag (.plain .state)) ∧
      exec (.stringClose tag [byte k]) s = .next (s.answered 0xC3 tag (.plain .state))) ∧
    (∀ x, s.string k = some x →
      exec (.stringRead tag [byte k]) s = .next (s.answered 0xC1 tag (.string (some
        { state := x.state, request := x.request, created := x.created, slots := s.slotReports x.slots
          pickedCount := pickedCount x.slots, vacantCount := vacantCount x.slots, nextPick := x.nextPick }))) ∧
      exec (.stringCancel tag [byte k]) s = .next ((((s.hunt.releaseSlots x.slots).setString k none).retryRound).reply
        ⟨0xC2, tag, .cancelled x.state (s.pickedReports x.slots)⟩) ∧
      (x.state = .waiting → x.slots = [] → (∀ j, j ≠ k → s.string j = none) →
        exec (.stringCancel tag [byte k]) s = .next ((s.answered 0xC2 tag (.cancelled .waiting [])).setString k none)) ∧
      (x.state = .complete → exec (.stringClose tag [byte k]) s = .next ((s.answered 0xC3 tag
        (.closed x.request x.created (s.slotReports x.slots))).setString k none)) ∧
      (x.state ≠ .complete → exec (.stringClose tag [byte k]) s = .next (s.answered 0xC3 tag (.plain .state))))

/-! ## Lamps -/

/-- R103, R137: slot `i` of a slot list is RESERVED. -/
def SlotReserved (slots : List Slot) (i : Nat) : Prop := ∃ r v, slots[i]? = some (.reserved r v)

/-- R16, R103, R137, R155: the role of each lamp, a position's for lamps 0 to 239 and a bay's for lamps 240 to 255. A bay's follows
its state, and in SEATED, ENGAGING, ENGAGED and RELEASING its result role. A position's follows its state and its record: PUTAWAY
where ASSIGNED, UNKNOWN_OCCUPANT where UNKNOWN; of a HELD position SHELF_REJECT where the record is REJECTED, and where it is
RESERVED NEXT_PICK in its string's lowest RESERVED slot and RESERVED in any other; and none elsewhere. -/
def LampsHaveTheirRoles (s : State) : Prop :=
  (∀ (b : BayNo) (l : LampNo), l.val = 240 + b.val → s.lampRole l =
    match (s.bay b).state, (s.bay b).resultRole with
    | .testing _, _ => some .bayTesting
    | .hold _ _, _ => some .bayHold
    | .faulted _, _ => some .bayFault
    | .empty, _ => none
    | .seated, .bayPass | .engaging _, .bayPass | .engaged, .bayPass | .releasing _, .bayPass => some .bayPass
    | .seated, .bayReject | .engaging _, .bayReject | .engaged, .bayReject | .releasing _, .bayReject => some .bayReject
    | .seated, .none | .engaging _, .none | .engaged, .none | .releasing _, .none => none) ∧
  (∀ (p : PositionNo) (l : LampNo), l.val = p.val → s.lampRole l = s.positionRole p ∧
    ((s.position p).state = .free → s.positionRole p = none) ∧
    ((s.position p).state = .unknown → s.positionRole p = some .unknownOccupant) ∧
    (∀ r, ((s.position p).state = .assigned r → s.positionRole p = some .putaway) ∧
      ((s.position p).state = .vacated r → s.positionRole p = none) ∧
      (∀ x, (s.position p).state = .held r → s.record r = some x →
        (x.state = .available → s.positionRole p = none) ∧
        (x.state = .rejected → s.positionRole p = some .shelfReject) ∧
        (∀ k i e, x.state = .reserved k i → s.string k = some e →
          (SlotReserved e.slots i → (∀ j, j < i → ¬ SlotReserved e.slots j) → s.positionRole p = some .nextPick) ∧
          (SlotReserved e.slots i → (∃ j, j < i ∧ SlotReserved e.slots j) → s.positionRole p = some .reserved)))))

/-- R154, R155: what each lamp shows: nothing in shelf watch; otherwise its override's pattern; otherwise the pattern that the role
map gives for its role, the roles standing in the map in the order of 08's table; and nothing without a role. -/
def LampsShowByPrecedence (s : State) : Prop :=
  ∀ l : LampNo,
    (s.lamps.dark = true → s.lampShows l = none) ∧
    (∀ n, s.lamps.dark = false → s.lamps.overrides[l] = some n → s.lampShows l = some n) ∧
    (s.lamps.dark = false → s.lamps.overrides[l] = none →
      (s.lampRole l = none → s.lampShows l = none) ∧
      (∀ i : Fin 10, s.lampRole l = (#v[LampRole.putaway, .reserved, .nextPick, .shelfReject, .unknownOccupant, .bayTesting,
          .bayPass, .bayReject, .bayFault, .bayHold])[i] → s.lampShows l = some s.lamps.roleMap[i]))

/-- LAMP_PATTERN, LAMP_ROLES, LAMP_OVERRIDE and LAMP_RELEASE (R152-R157): a read changes nothing; a pattern written starts its cycle
anew; the role map is replaced whole; an override is set, or removed, at one lamp alone, and a release of all removes every one.
Each lamp has the role that its owner's state gives it (R16, R103, R137), and shows its override or its role's pattern (R155). -/
def Obligations.LampsShowTheirRolesAndAreWritten : Prop :=
  (∀ s : State, LampsHaveTheirRoles s ∧ LampsShowByPrecedence s) ∧
  ∀ (s : State) (tag : Byte) (n : PatternNo) (p : Pattern) (map : Vector PatternNo 10) (l : LampNo), s.attending →
    exec (.lampPatternRead tag [byte n, 0]) s = .next (s.answered 0xD0 tag (.pattern s.lamps.patterns[n])) ∧
    (p.valid = true → exec (.lampPattern tag (byte n :: 1 :: p.bytes)) s = .next { s.answered 0xD0 tag (.pattern p) with
      lamps := { s.lamps with patterns := s.lamps.patterns.set n p, epochs := s.lamps.epochs.set n s.clock.ms } }) ∧
    exec (.lampRolesRead tag [0]) s = .next (s.answered 0xD1 tag (.roleMap s.lamps.roleMap)) ∧
    exec (.lampRoles tag (1 :: map.toList.map fun x => byte x)) s =
      .next { s.answered 0xD1 tag (.roleMap map) with lamps := { s.lamps with roleMap := map } } ∧
    exec (.lampOverrideRead tag [byte l, 0]) s = .next (s.answered 0xD2 tag (.lamp
      { role := s.lampRole l, override := s.lamps.overrides[l], shown := s.lampShows l, level := s.lampLevel l
        drive := s.lampDrive l })) ∧
    exec (.lampOverride tag [byte l, 1, byte n]) s = .next { s.answered 0xD2 tag (.overridden l s.lamps.overrides[l]) with
      lamps := { s.lamps with overrides := s.lamps.overrides.set l (some n) } } ∧
    exec (.lampRelease tag [byte l, 0]) s =
      .next { s.answered 0xD3 tag (.released (if s.lamps.overrides[l] = none then 0 else 1)) with
        lamps := { s.lamps with overrides := s.lamps.overrides.set l none } } ∧
    exec (.lampRelease tag [0, 1]) s =
      .next { s.answered 0xD3 tag (.released (s.lamps.overrides.toList.countP Option.isSome)) with
        lamps := { s.lamps with overrides := Vector.replicate 256 none } }

/-- R149-R151: a pattern with one time 0 is steady at the other part's intensity; one with both times above 0 repeats a cycle of
their sum, 20 to 20,000 ms long, its level at `q` milliseconds into the cycle that of R150's table, with each fade no longer than
its part and its quotient rounded down; a level never leaves the two intensities. A lamp's elapsed time is counted from its
pattern's epoch. The drive is 255 × level on LINEAR and level × level on SQUARE, which lies lower between the ends; a lamp with no
role and no override, or in shelf watch, has drive 0. -/
def Obligations.ALampsDriveFollowsItsPattern : Prop :=
  (∀ (p : Pattern) (elapsed : Nat), p.valid = true →
    ¬ (p.onTime = 0 ∧ p.offTime = 0) ∧
    (p.offTime = 0 → p.level elapsed = p.onIntensity) ∧ (p.onTime = 0 → p.level elapsed = p.offIntensity) ∧
    (0 < p.onTime → 0 < p.offTime → 20 ≤ p.onTime + p.offTime ∧ p.onTime + p.offTime ≤ 20000 ∧
      p.level (elapsed + (p.onTime + p.offTime)) = p.level elapsed ∧
      let q := elapsed % (p.onTime + p.offTime)
      let rise := min p.fadeIn p.onTime
      let fall := min p.fadeOut p.offTime
      (q < rise → (p.level elapsed : Int) =
        p.offIntensity + ((p.onIntensity : Int) - p.offIntensity) * q / (rise : Int)) ∧
      (rise ≤ q → q < p.onTime → p.level elapsed = p.onIntensity) ∧
      (p.onTime ≤ q → q - p.onTime < fall → (p.level elapsed : Int) =
        p.onIntensity + ((p.offIntensity : Int) - p.onIntensity) * (q - p.onTime : Nat) / (fall : Int)) ∧
      (p.onTime ≤ q → fall ≤ q - p.onTime → p.level elapsed = p.offIntensity)) ∧
    min p.onIntensity p.offIntensity ≤ p.level elapsed ∧ p.level elapsed ≤ max p.onIntensity p.offIntensity ∧
    p.level elapsed ≤ 255) ∧
  (∀ level : Nat, level ≤ 255 →
    Curve.drive .linear level = 255 * level ∧ Curve.drive .square level = level * level ∧
    (0 < level → level < 255 → Curve.drive .square level < Curve.drive .linear level) ∧ Curve.drive .linear level ≤ 65025) ∧
  (Curve.drive .linear 0 = 0 ∧ Curve.drive .square 0 = 0 ∧ Curve.drive .linear 255 = 65025 ∧
    Curve.drive .square 255 = 65025 ∧ Curve.drive .linear 127 = 32385 ∧ Curve.drive .square 127 = 16129) ∧
  (∀ (s : State) (l : LampNo),
    (∀ n : PatternNo, s.lampShows l = some n →
      s.lampLevel l = (s.lamps.patterns[n]).level (s.clock.ms - s.lamps.epochs[n]) ∧
      s.lampDrive l = (s.lamps.patterns[n]).curve.drive (s.lampLevel l)) ∧
    (s.lamps.dark = true ∨ (s.lamps.overrides[l] = none ∧ s.lampRole l = none) → s.lampDrive l = 0))

/-! ## Grading -/

/-- R69-R74: the measured resistance, the resistance at 25 °C, the ratio, the capacity and the state of health are their exact
quotients rounded down, each limited to the top of its range; a fall of the state of charge below 50 permille gives neither
capacity nor health. A resistance measured at 25 °C stays as it is. -/
def Obligations.TheFiguresAreRoundedDownAndSaturated : Prop :=
  (∀ v0 vp ip : Nat, vp < v0 → 0 < ip →
    let rm := measuredResistance v0 vp ip
    rm ≤ 65535 ∧ 2 * ip * rm ≤ 2 * (v0 - vp) * 100000 + ip ∧
    (rm < 65535 → 2 * (v0 - vp) * 100000 + ip < 2 * ip * (rm + 1))) ∧
  (∀ (rm k : Nat) (t : Int), k ≤ 200 → -20 ≤ t → t ≤ 60 →
    let r := resistanceAt25 rm k t
    let d := 10000 + (k : Int) * (t - 25)
    1000 ≤ d ∧ d ≤ 17000 ∧ r ≤ 65535 ∧ (r : Int) * d ≤ rm * 10000 ∧ (r < 65535 → (rm : Int) * 10000 < (r + 1) * d) ∧
    (25 ≤ t → r ≤ rm) ∧ (t ≤ 25 → min rm 65535 ≤ r) ∧ (t = 25 ∨ k = 0 → r = min rm 65535)) ∧
  (∀ r nominal : Nat, 0 < nominal →
    let x := resistanceRatio r nominal
    x ≤ 9999 ∧ x * nominal ≤ r * 1000 ∧ (x < 9999 → r * 1000 < (x + 1) * nominal) ∧
    resistanceRatio nominal nominal = 1000) ∧
  (∀ charge nameplate s0 s1 : Nat, 0 < nameplate →
    (s0 < s1 + 50 → drainCapacity charge nameplate (socFall s0 s1) = none) ∧
    (s1 + 50 ≤ s0 → ∃ c h : Nat, drainCapacity charge nameplate (socFall s0 s1) = some ⟨c, h⟩ ∧
      c ≤ 1000000 ∧ 36 * (s0 - s1) * c ≤ charge * 25 ∧ (c < 1000000 → charge * 25 < 36 * (s0 - s1) * (c + 1)) ∧
      h ≤ 1200 ∧ h * nameplate ≤ c * 1000 ∧ (h < 1200 → c * 1000 < (h + 1) * nameplate)))

/-- R41, R77-R80: with a capacity the uncapped grade is the best whose two conditions both hold. Without one it goes by the resistance
ratio alone, is capped at B, so never A, and is R above the last limit. SPARSE caps a grade at B and UNSETTLED at C,
TIME_LIMITED caps nothing, and the three caps come to the same in every order. The graded result of a program has the uncapped grade
under its caps, CAP_ABSENT set exactly where no capacity is found, and the figures of R41's table. -/
def Obligations.TheGradeIsTheBestMetUnderItsCaps : Prop :=
  (∀ (l : GradeLimits) (x : Capacity) (rr : Nat),
    let g := l.uncapped (some x) rr
    let a := l.sohA ≤ x.health ∧ rr ≤ l.rrA
    let b := l.sohB ≤ x.health ∧ rr ≤ l.rrB
    let c := l.sohC ≤ x.health ∧ rr ≤ l.rrC
    (g = .a ↔ a) ∧ (g = .b ↔ ¬a ∧ b) ∧ (g = .c ↔ ¬a ∧ ¬b ∧ c) ∧ (g = .r ↔ ¬a ∧ ¬b ∧ ¬c) ∧
    (l.valid = true → (g.rank ≤ 1 ↔ b) ∧ (g.rank ≤ 2 ↔ c))) ∧
  (∀ (p : Program) (b : BayNo) (f : Profile) (l : GradeLimits) (v : Option SettleReading) (time : Seconds),
    p.capacityBy f v = none →
    let g := p.grade b f l v time
    l.uncapped none p.pulse.ratio = (if p.pulse.ratio ≤ l.rrA then .a else if p.pulse.ratio ≤ l.rrB then .b
      else if p.pulse.ratio ≤ l.rrC then .c else .r) ∧
    g.flags.capAbsent = true ∧ g.grade = g.flags.capGrade (l.uncapped none p.pulse.ratio) ∧ g.grade ≠ .a ∧
    (l.rrA ≤ l.rrB → l.rrB ≤ l.rrC → l.rrC < p.pulse.ratio → g.grade = .r)) ∧
  (∀ (p : Program) (b : BayNo) (f : Profile) (l : GradeLimits) (v : Option SettleReading) (time : Seconds),
    let g := p.grade b f l v time
    (∀ x, p.capacityBy f v = some x → g.flags = { p.flags with capAbsent := false } ∧
      g.grade = g.flags.capGrade (l.uncapped (some x) p.pulse.ratio) ∧ g.capacity = some x) ∧
    (p.capacityBy f v = none → g.flags = { p.flags with capAbsent := true } ∧ g.capacity = none) ∧
    (v = none → p.capacityBy f v = none ∧ g.restVoltage = p.rest.voltage ∧ g.restTime = p.rest.time) ∧
    (∀ w, v = some w → g.restVoltage = w.voltage ∧ g.restTime = w.time) ∧
    g.resistance = p.pulse.resistance ∧ g.ratio = p.pulse.ratio ∧ g.identity = p.identity ∧ g.profile = p.request.profile ∧
    g.cells = p.request.cells ∧ g.nameplate = p.request.nameplate ∧ g.gradedTime = time ∧ g.origin = b) ∧
  (∀ (f : Flags) (g : Grade),
    (f.capGrade g).rank = max g.rank (max (if f.capAbsent = true ∨ f.sparse = true then 1 else 0) (if f.unsettled = true then 2 else 0)) ∧
    ({ f with timeLimited := true }).capGrade g = f.capGrade g ∧
    f.capGrade g = (let x := if f.unsettled then Grade.cap .c g else g
                    let x := if f.sparse then Grade.cap .b x else x
                    if f.capAbsent then Grade.cap .b x else x))

/-- R67: for a profile whose breakpoints rise strictly, a per-cell voltage at or below b0 gives 0 and one at or above b20 gives
1000; one in segment k gives 50 × k and the interpolated term, which is below 50; one on an inner breakpoint bk gives 50 × k; the
result never lies above 1000, and a higher voltage never gives a lower state of charge. The same lookup gives s0 at the gate and
s1 at the verdict. Of the worked profile and a module of 12 cells, the nine voltages of the rule's table give its nine figures. -/
def Obligations.TheStateOfChargeFollowsTheBreakpoints : Prop :=
  (∀ (f : Profile) (voltage cells : Nat), (∀ i j : Fin 21, i < j → f.breakpoints[i] < f.breakpoints[j]) → 0 < cells →
    (voltage / cells ≤ f.breakpoints[0] → stateOfCharge f voltage cells = 0) ∧
    (f.breakpoints[20] ≤ voltage / cells → stateOfCharge f voltage cells = 1000) ∧
    (∀ k : Fin 20, f.breakpoints[k.castSucc] ≤ voltage / cells → voltage / cells < f.breakpoints[k.succ] →
      stateOfCharge f voltage cells = 50 * k.val + 50 * (voltage / cells - f.breakpoints[k.castSucc]) /
        (f.breakpoints[k.succ] - f.breakpoints[k.castSucc]) ∧
      50 * (voltage / cells - f.breakpoints[k.castSucc]) / (f.breakpoints[k.succ] - f.breakpoints[k.castSucc]) < 50) ∧
    (∀ k : Fin 21, voltage / cells = f.breakpoints[k] → stateOfCharge f voltage cells = 50 * k.val) ∧
    stateOfCharge f voltage cells ≤ 1000 ∧
    (∀ higher, voltage ≤ higher → stateOfCharge f voltage cells ≤ stateOfCharge f higher cells) ∧
    (∀ other, other / cells = voltage / cells → stateOfCharge f other cells = stateOfCharge f voltage cells)) ∧
  (∀ (f : Profile) (plan : Plan) (cells voltage soc : Nat) (t : Int), restGate f plan cells voltage t = .pass soc →
    soc = stateOfCharge f voltage cells) ∧
  (∀ (p : Program) (f : Profile) (v1 : SettleReading), p.capacityBy f (some v1) =
    drainCapacity p.charge p.request.nameplate (socFall p.rest.soc (stateOfCharge f v1.voltage p.request.cells))) ∧
  [35400, 36000, 37800, 41760, 45720, 45731, 49200, 49800, 50160].map (fun v => stateOfCharge
    ⟨#v[3000, 3300, 3420, 3480, 3520, 3555, 3585, 3610, 3630, 3650, 3670, 3690, 3715, 3745, 3780, 3820, 3865, 3915, 3970,
      4040, 4150], 60⟩ v 12) = [0, 0, 25, 150, 737, 737, 977, 1000, 1000]
end

