-- ==== Sys2Proof/Laws/Framing.lean ====
section
/-! SUPPORT. What the receiver does with the bytes of a frame: its length field, its body, and the numbers in two bytes. -/

namespace Sys2Proof.Machine

/-- The length field stands whatever follows it (R173). -/
theorem frameLength_append (f bs : List Byte) (h : 3 ≤ f.length) : frameLength (f ++ bs) = frameLength f := by
  unfold frameLength
  simp only [List.getD_append _ _ _ _ (show 1 < f.length by omega), List.getD_append _ _ _ _ (show 2 < f.length by omega)]

/-- A number of 16 bits is read back from its two bytes (R173). -/
theorem bytes16_nat (n : Nat) (h : n < 65536) : (byte n).toNat + 256 * (byte (n / 256)).toNat = n := by
  simp [byte]; omega

/-- The bytes of a body take the receiver from BODY to CHECK (R175). -/
theorem Receiver.receiveAll_body (now : Moment) (rest : List Byte) : ∀ (bs f : List Byte) (t : Option Moment), bs ≠ [] → 5 ≤ f.length →
    f.length + bs.length = 5 + frameLength f →
    Receiver.receiveAll now (bs ++ rest) ⟨.body, f, t⟩ = Receiver.receiveAll now rest ⟨.check, f ++ bs, some (now + 3)⟩ := by
  intro bs
  induction bs with
  | nil => intro _ _ h; exact absurd rfl h
  | cons b bs ih =>
    intro f t _ hf hl
    rw [List.cons_append, Receiver.receiveAll.eq_2]
    simp only [Receiver.receive]
    rw [frameLength_append f [b] (by omega)]
    simp only [List.length_cons] at hl
    by_cases hbs : bs = []
    · subst hbs
      rw [if_neg (by simp at hl ⊢; omega)]
      rfl
    · have : 0 < bs.length := List.length_pos_iff.2 hbs
      rw [if_pos (by simp; omega)]
      dsimp only
      rw [ih (f ++ [b]) _ hbs (by simp; omega) (by rw [frameLength_append f [b] (by omega)]; simp; omega)]
      simp

end Sys2Proof.Machine
end

