-- ==== Sys2Proof/Laws/State.lean ====
section
/-! SUPPORT. One lemma per field per update of the state, and the reading of each table after a write to it. -/

namespace Sys2Proof.Machine

variable (s : State)

/-! ## setClock -/

@[simp] theorem State.setClock_clock (x : Clock) : (s.setClock x).clock = x := rfl
@[simp] theorem State.setClock_resetInput (x : Clock) : (s.setClock x).resetInput = s.resetInput := rfl
@[simp] theorem State.setClock_settings (x : Clock) : (s.setClock x).settings = s.settings := rfl
@[simp] theorem State.setClock_link (x : Clock) : (s.setClock x).link = s.link := rfl
@[simp] theorem State.setClock_events (x : Clock) : (s.setClock x).events = s.events := rfl
@[simp] theorem State.setClock_bays (x : Clock) : (s.setClock x).bays = s.bays := rfl
@[simp] theorem State.setClock_arbiter (x : Clock) : (s.setClock x).arbiter = s.arbiter := rfl
@[simp] theorem State.setClock_load (x : Clock) : (s.setClock x).load = s.load := rfl
@[simp] theorem State.setClock_profiles (x : Clock) : (s.setClock x).profiles = s.profiles := rfl
@[simp] theorem State.setClock_plans (x : Clock) : (s.setClock x).plans = s.plans := rfl
@[simp] theorem State.setClock_limits (x : Clock) : (s.setClock x).limits = s.limits := rfl
@[simp] theorem State.setClock_records (x : Clock) : (s.setClock x).records = s.records := rfl
@[simp] theorem State.setClock_positions (x : Clock) : (s.setClock x).positions = s.positions := rfl
@[simp] theorem State.setClock_holdQueue (x : Clock) : (s.setClock x).holdQueue = s.holdQueue := rfl
@[simp] theorem State.setClock_scanner (x : Clock) : (s.setClock x).scanner = s.scanner := rfl
@[simp] theorem State.setClock_strings (x : Clock) : (s.setClock x).strings = s.strings := rfl
@[simp] theorem State.setClock_lamps (x : Clock) : (s.setClock x).lamps = s.lamps := rfl
@[simp] theorem State.setClock_pending (x : Clock) : (s.setClock x).pending = s.pending := rfl

/-! ## setResetInput -/

@[simp] theorem State.setResetInput_clock (x : ResetInput) : (s.setResetInput x).clock = s.clock := rfl
@[simp] theorem State.setResetInput_resetInput (x : ResetInput) : (s.setResetInput x).resetInput = x := rfl
@[simp] theorem State.setResetInput_settings (x : ResetInput) : (s.setResetInput x).settings = s.settings := rfl
@[simp] theorem State.setResetInput_link (x : ResetInput) : (s.setResetInput x).link = s.link := rfl
@[simp] theorem State.setResetInput_events (x : ResetInput) : (s.setResetInput x).events = s.events := rfl
@[simp] theorem State.setResetInput_bays (x : ResetInput) : (s.setResetInput x).bays = s.bays := rfl
@[simp] theorem State.setResetInput_arbiter (x : ResetInput) : (s.setResetInput x).arbiter = s.arbiter := rfl
@[simp] theorem State.setResetInput_load (x : ResetInput) : (s.setResetInput x).load = s.load := rfl
@[simp] theorem State.setResetInput_profiles (x : ResetInput) : (s.setResetInput x).profiles = s.profiles := rfl
@[simp] theorem State.setResetInput_plans (x : ResetInput) : (s.setResetInput x).plans = s.plans := rfl
@[simp] theorem State.setResetInput_limits (x : ResetInput) : (s.setResetInput x).limits = s.limits := rfl
@[simp] theorem State.setResetInput_records (x : ResetInput) : (s.setResetInput x).records = s.records := rfl
@[simp] theorem State.setResetInput_positions (x : ResetInput) : (s.setResetInput x).positions = s.positions := rfl
@[simp] theorem State.setResetInput_holdQueue (x : ResetInput) : (s.setResetInput x).holdQueue = s.holdQueue := rfl
@[simp] theorem State.setResetInput_scanner (x : ResetInput) : (s.setResetInput x).scanner = s.scanner := rfl
@[simp] theorem State.setResetInput_strings (x : ResetInput) : (s.setResetInput x).strings = s.strings := rfl
@[simp] theorem State.setResetInput_lamps (x : ResetInput) : (s.setResetInput x).lamps = s.lamps := rfl
@[simp] theorem State.setResetInput_pending (x : ResetInput) : (s.setResetInput x).pending = s.pending := rfl

/-! ## setSettings -/

@[simp] theorem State.setSettings_clock (x : Settings) : (s.setSettings x).clock = s.clock := rfl
@[simp] theorem State.setSettings_resetInput (x : Settings) : (s.setSettings x).resetInput = s.resetInput := rfl
@[simp] theorem State.setSettings_settings (x : Settings) : (s.setSettings x).settings = x := rfl
@[simp] theorem State.setSettings_link (x : Settings) : (s.setSettings x).link = s.link := rfl
@[simp] theorem State.setSettings_events (x : Settings) : (s.setSettings x).events = s.events := rfl
@[simp] theorem State.setSettings_bays (x : Settings) : (s.setSettings x).bays = s.bays := rfl
@[simp] theorem State.setSettings_arbiter (x : Settings) : (s.setSettings x).arbiter = s.arbiter := rfl
@[simp] theorem State.setSettings_load (x : Settings) : (s.setSettings x).load = s.load := rfl
@[simp] theorem State.setSettings_profiles (x : Settings) : (s.setSettings x).profiles = s.profiles := rfl
@[simp] theorem State.setSettings_plans (x : Settings) : (s.setSettings x).plans = s.plans := rfl
@[simp] theorem State.setSettings_limits (x : Settings) : (s.setSettings x).limits = s.limits := rfl
@[simp] theorem State.setSettings_records (x : Settings) : (s.setSettings x).records = s.records := rfl
@[simp] theorem State.setSettings_positions (x : Settings) : (s.setSettings x).positions = s.positions := rfl
@[simp] theorem State.setSettings_holdQueue (x : Settings) : (s.setSettings x).holdQueue = s.holdQueue := rfl
@[simp] theorem State.setSettings_scanner (x : Settings) : (s.setSettings x).scanner = s.scanner := rfl
@[simp] theorem State.setSettings_strings (x : Settings) : (s.setSettings x).strings = s.strings := rfl
@[simp] theorem State.setSettings_lamps (x : Settings) : (s.setSettings x).lamps = s.lamps := rfl
@[simp] theorem State.setSettings_pending (x : Settings) : (s.setSettings x).pending = s.pending := rfl

/-! ## setLink -/

@[simp] theorem State.setLink_clock (x : Link) : (s.setLink x).clock = s.clock := rfl
@[simp] theorem State.setLink_resetInput (x : Link) : (s.setLink x).resetInput = s.resetInput := rfl
@[simp] theorem State.setLink_settings (x : Link) : (s.setLink x).settings = s.settings := rfl
@[simp] theorem State.setLink_link (x : Link) : (s.setLink x).link = x := rfl
@[simp] theorem State.setLink_events (x : Link) : (s.setLink x).events = s.events := rfl
@[simp] theorem State.setLink_bays (x : Link) : (s.setLink x).bays = s.bays := rfl
@[simp] theorem State.setLink_arbiter (x : Link) : (s.setLink x).arbiter = s.arbiter := rfl
@[simp] theorem State.setLink_load (x : Link) : (s.setLink x).load = s.load := rfl
@[simp] theorem State.setLink_profiles (x : Link) : (s.setLink x).profiles = s.profiles := rfl
@[simp] theorem State.setLink_plans (x : Link) : (s.setLink x).plans = s.plans := rfl
@[simp] theorem State.setLink_limits (x : Link) : (s.setLink x).limits = s.limits := rfl
@[simp] theorem State.setLink_records (x : Link) : (s.setLink x).records = s.records := rfl
@[simp] theorem State.setLink_positions (x : Link) : (s.setLink x).positions = s.positions := rfl
@[simp] theorem State.setLink_holdQueue (x : Link) : (s.setLink x).holdQueue = s.holdQueue := rfl
@[simp] theorem State.setLink_scanner (x : Link) : (s.setLink x).scanner = s.scanner := rfl
@[simp] theorem State.setLink_strings (x : Link) : (s.setLink x).strings = s.strings := rfl
@[simp] theorem State.setLink_lamps (x : Link) : (s.setLink x).lamps = s.lamps := rfl
@[simp] theorem State.setLink_pending (x : Link) : (s.setLink x).pending = s.pending := rfl

/-! ## setEvents -/

@[simp] theorem State.setEvents_clock (x : Events) : (s.setEvents x).clock = s.clock := rfl
@[simp] theorem State.setEvents_resetInput (x : Events) : (s.setEvents x).resetInput = s.resetInput := rfl
@[simp] theorem State.setEvents_settings (x : Events) : (s.setEvents x).settings = s.settings := rfl
@[simp] theorem State.setEvents_link (x : Events) : (s.setEvents x).link = s.link := rfl
@[simp] theorem State.setEvents_events (x : Events) : (s.setEvents x).events = x := rfl
@[simp] theorem State.setEvents_bays (x : Events) : (s.setEvents x).bays = s.bays := rfl
@[simp] theorem State.setEvents_arbiter (x : Events) : (s.setEvents x).arbiter = s.arbiter := rfl
@[simp] theorem State.setEvents_load (x : Events) : (s.setEvents x).load = s.load := rfl
@[simp] theorem State.setEvents_profiles (x : Events) : (s.setEvents x).profiles = s.profiles := rfl
@[simp] theorem State.setEvents_plans (x : Events) : (s.setEvents x).plans = s.plans := rfl
@[simp] theorem State.setEvents_limits (x : Events) : (s.setEvents x).limits = s.limits := rfl
@[simp] theorem State.setEvents_records (x : Events) : (s.setEvents x).records = s.records := rfl
@[simp] theorem State.setEvents_positions (x : Events) : (s.setEvents x).positions = s.positions := rfl
@[simp] theorem State.setEvents_holdQueue (x : Events) : (s.setEvents x).holdQueue = s.holdQueue := rfl
@[simp] theorem State.setEvents_scanner (x : Events) : (s.setEvents x).scanner = s.scanner := rfl
@[simp] theorem State.setEvents_strings (x : Events) : (s.setEvents x).strings = s.strings := rfl
@[simp] theorem State.setEvents_lamps (x : Events) : (s.setEvents x).lamps = s.lamps := rfl
@[simp] theorem State.setEvents_pending (x : Events) : (s.setEvents x).pending = s.pending := rfl

/-! ## setBays -/

@[simp] theorem State.setBays_clock (x : Vector Bay 16) : (s.setBays x).clock = s.clock := rfl
@[simp] theorem State.setBays_resetInput (x : Vector Bay 16) : (s.setBays x).resetInput = s.resetInput := rfl
@[simp] theorem State.setBays_settings (x : Vector Bay 16) : (s.setBays x).settings = s.settings := rfl
@[simp] theorem State.setBays_link (x : Vector Bay 16) : (s.setBays x).link = s.link := rfl
@[simp] theorem State.setBays_events (x : Vector Bay 16) : (s.setBays x).events = s.events := rfl
@[simp] theorem State.setBays_bays (x : Vector Bay 16) : (s.setBays x).bays = x := rfl
@[simp] theorem State.setBays_arbiter (x : Vector Bay 16) : (s.setBays x).arbiter = s.arbiter := rfl
@[simp] theorem State.setBays_load (x : Vector Bay 16) : (s.setBays x).load = s.load := rfl
@[simp] theorem State.setBays_profiles (x : Vector Bay 16) : (s.setBays x).profiles = s.profiles := rfl
@[simp] theorem State.setBays_plans (x : Vector Bay 16) : (s.setBays x).plans = s.plans := rfl
@[simp] theorem State.setBays_limits (x : Vector Bay 16) : (s.setBays x).limits = s.limits := rfl
@[simp] theorem State.setBays_records (x : Vector Bay 16) : (s.setBays x).records = s.records := rfl
@[simp] theorem State.setBays_positions (x : Vector Bay 16) : (s.setBays x).positions = s.positions := rfl
@[simp] theorem State.setBays_holdQueue (x : Vector Bay 16) : (s.setBays x).holdQueue = s.holdQueue := rfl
@[simp] theorem State.setBays_scanner (x : Vector Bay 16) : (s.setBays x).scanner = s.scanner := rfl
@[simp] theorem State.setBays_strings (x : Vector Bay 16) : (s.setBays x).strings = s.strings := rfl
@[simp] theorem State.setBays_lamps (x : Vector Bay 16) : (s.setBays x).lamps = s.lamps := rfl
@[simp] theorem State.setBays_pending (x : Vector Bay 16) : (s.setBays x).pending = s.pending := rfl

/-! ## setArbiter -/

@[simp] theorem State.setArbiter_clock (x : Arbiter) : (s.setArbiter x).clock = s.clock := rfl
@[simp] theorem State.setArbiter_resetInput (x : Arbiter) : (s.setArbiter x).resetInput = s.resetInput := rfl
@[simp] theorem State.setArbiter_settings (x : Arbiter) : (s.setArbiter x).settings = s.settings := rfl
@[simp] theorem State.setArbiter_link (x : Arbiter) : (s.setArbiter x).link = s.link := rfl
@[simp] theorem State.setArbiter_events (x : Arbiter) : (s.setArbiter x).events = s.events := rfl
@[simp] theorem State.setArbiter_bays (x : Arbiter) : (s.setArbiter x).bays = s.bays := rfl
@[simp] theorem State.setArbiter_arbiter (x : Arbiter) : (s.setArbiter x).arbiter = x := rfl
@[simp] theorem State.setArbiter_load (x : Arbiter) : (s.setArbiter x).load = s.load := rfl
@[simp] theorem State.setArbiter_profiles (x : Arbiter) : (s.setArbiter x).profiles = s.profiles := rfl
@[simp] theorem State.setArbiter_plans (x : Arbiter) : (s.setArbiter x).plans = s.plans := rfl
@[simp] theorem State.setArbiter_limits (x : Arbiter) : (s.setArbiter x).limits = s.limits := rfl
@[simp] theorem State.setArbiter_records (x : Arbiter) : (s.setArbiter x).records = s.records := rfl
@[simp] theorem State.setArbiter_positions (x : Arbiter) : (s.setArbiter x).positions = s.positions := rfl
@[simp] theorem State.setArbiter_holdQueue (x : Arbiter) : (s.setArbiter x).holdQueue = s.holdQueue := rfl
@[simp] theorem State.setArbiter_scanner (x : Arbiter) : (s.setArbiter x).scanner = s.scanner := rfl
@[simp] theorem State.setArbiter_strings (x : Arbiter) : (s.setArbiter x).strings = s.strings := rfl
@[simp] theorem State.setArbiter_lamps (x : Arbiter) : (s.setArbiter x).lamps = s.lamps := rfl
@[simp] theorem State.setArbiter_pending (x : Arbiter) : (s.setArbiter x).pending = s.pending := rfl

/-! ## setLoad -/

@[simp] theorem State.setLoad_clock (x : Load) : (s.setLoad x).clock = s.clock := rfl
@[simp] theorem State.setLoad_resetInput (x : Load) : (s.setLoad x).resetInput = s.resetInput := rfl
@[simp] theorem State.setLoad_settings (x : Load) : (s.setLoad x).settings = s.settings := rfl
@[simp] theorem State.setLoad_link (x : Load) : (s.setLoad x).link = s.link := rfl
@[simp] theorem State.setLoad_events (x : Load) : (s.setLoad x).events = s.events := rfl
@[simp] theorem State.setLoad_bays (x : Load) : (s.setLoad x).bays = s.bays := rfl
@[simp] theorem State.setLoad_arbiter (x : Load) : (s.setLoad x).arbiter = s.arbiter := rfl
@[simp] theorem State.setLoad_load (x : Load) : (s.setLoad x).load = x := rfl
@[simp] theorem State.setLoad_profiles (x : Load) : (s.setLoad x).profiles = s.profiles := rfl
@[simp] theorem State.setLoad_plans (x : Load) : (s.setLoad x).plans = s.plans := rfl
@[simp] theorem State.setLoad_limits (x : Load) : (s.setLoad x).limits = s.limits := rfl
@[simp] theorem State.setLoad_records (x : Load) : (s.setLoad x).records = s.records := rfl
@[simp] theorem State.setLoad_positions (x : Load) : (s.setLoad x).positions = s.positions := rfl
@[simp] theorem State.setLoad_holdQueue (x : Load) : (s.setLoad x).holdQueue = s.holdQueue := rfl
@[simp] theorem State.setLoad_scanner (x : Load) : (s.setLoad x).scanner = s.scanner := rfl
@[simp] theorem State.setLoad_strings (x : Load) : (s.setLoad x).strings = s.strings := rfl
@[simp] theorem State.setLoad_lamps (x : Load) : (s.setLoad x).lamps = s.lamps := rfl
@[simp] theorem State.setLoad_pending (x : Load) : (s.setLoad x).pending = s.pending := rfl

/-! ## setProfiles -/

@[simp] theorem State.setProfiles_clock (x : Vector (Option Profile) 4) : (s.setProfiles x).clock = s.clock := rfl
@[simp] theorem State.setProfiles_resetInput (x : Vector (Option Profile) 4) : (s.setProfiles x).resetInput = s.resetInput := rfl
@[simp] theorem State.setProfiles_settings (x : Vector (Option Profile) 4) : (s.setProfiles x).settings = s.settings := rfl
@[simp] theorem State.setProfiles_link (x : Vector (Option Profile) 4) : (s.setProfiles x).link = s.link := rfl
@[simp] theorem State.setProfiles_events (x : Vector (Option Profile) 4) : (s.setProfiles x).events = s.events := rfl
@[simp] theorem State.setProfiles_bays (x : Vector (Option Profile) 4) : (s.setProfiles x).bays = s.bays := rfl
@[simp] theorem State.setProfiles_arbiter (x : Vector (Option Profile) 4) : (s.setProfiles x).arbiter = s.arbiter := rfl
@[simp] theorem State.setProfiles_load (x : Vector (Option Profile) 4) : (s.setProfiles x).load = s.load := rfl
@[simp] theorem State.setProfiles_profiles (x : Vector (Option Profile) 4) : (s.setProfiles x).profiles = x := rfl
@[simp] theorem State.setProfiles_plans (x : Vector (Option Profile) 4) : (s.setProfiles x).plans = s.plans := rfl
@[simp] theorem State.setProfiles_limits (x : Vector (Option Profile) 4) : (s.setProfiles x).limits = s.limits := rfl
@[simp] theorem State.setProfiles_records (x : Vector (Option Profile) 4) : (s.setProfiles x).records = s.records := rfl
@[simp] theorem State.setProfiles_positions (x : Vector (Option Profile) 4) : (s.setProfiles x).positions = s.positions := rfl
@[simp] theorem State.setProfiles_holdQueue (x : Vector (Option Profile) 4) : (s.setProfiles x).holdQueue = s.holdQueue := rfl
@[simp] theorem State.setProfiles_scanner (x : Vector (Option Profile) 4) : (s.setProfiles x).scanner = s.scanner := rfl
@[simp] theorem State.setProfiles_strings (x : Vector (Option Profile) 4) : (s.setProfiles x).strings = s.strings := rfl
@[simp] theorem State.setProfiles_lamps (x : Vector (Option Profile) 4) : (s.setProfiles x).lamps = s.lamps := rfl
@[simp] theorem State.setProfiles_pending (x : Vector (Option Profile) 4) : (s.setProfiles x).pending = s.pending := rfl

/-! ## setPlans -/

@[simp] theorem State.setPlans_clock (x : Vector (Option Plan) 4) : (s.setPlans x).clock = s.clock := rfl
@[simp] theorem State.setPlans_resetInput (x : Vector (Option Plan) 4) : (s.setPlans x).resetInput = s.resetInput := rfl
@[simp] theorem State.setPlans_settings (x : Vector (Option Plan) 4) : (s.setPlans x).settings = s.settings := rfl
@[simp] theorem State.setPlans_link (x : Vector (Option Plan) 4) : (s.setPlans x).link = s.link := rfl
@[simp] theorem State.setPlans_events (x : Vector (Option Plan) 4) : (s.setPlans x).events = s.events := rfl
@[simp] theorem State.setPlans_bays (x : Vector (Option Plan) 4) : (s.setPlans x).bays = s.bays := rfl
@[simp] theorem State.setPlans_arbiter (x : Vector (Option Plan) 4) : (s.setPlans x).arbiter = s.arbiter := rfl
@[simp] theorem State.setPlans_load (x : Vector (Option Plan) 4) : (s.setPlans x).load = s.load := rfl
@[simp] theorem State.setPlans_profiles (x : Vector (Option Plan) 4) : (s.setPlans x).profiles = s.profiles := rfl
@[simp] theorem State.setPlans_plans (x : Vector (Option Plan) 4) : (s.setPlans x).plans = x := rfl
@[simp] theorem State.setPlans_limits (x : Vector (Option Plan) 4) : (s.setPlans x).limits = s.limits := rfl
@[simp] theorem State.setPlans_records (x : Vector (Option Plan) 4) : (s.setPlans x).records = s.records := rfl
@[simp] theorem State.setPlans_positions (x : Vector (Option Plan) 4) : (s.setPlans x).positions = s.positions := rfl
@[simp] theorem State.setPlans_holdQueue (x : Vector (Option Plan) 4) : (s.setPlans x).holdQueue = s.holdQueue := rfl
@[simp] theorem State.setPlans_scanner (x : Vector (Option Plan) 4) : (s.setPlans x).scanner = s.scanner := rfl
@[simp] theorem State.setPlans_strings (x : Vector (Option Plan) 4) : (s.setPlans x).strings = s.strings := rfl
@[simp] theorem State.setPlans_lamps (x : Vector (Option Plan) 4) : (s.setPlans x).lamps = s.lamps := rfl
@[simp] theorem State.setPlans_pending (x : Vector (Option Plan) 4) : (s.setPlans x).pending = s.pending := rfl

/-! ## setLimits -/

@[simp] theorem State.setLimits_clock (x : GradeLimits) : (s.setLimits x).clock = s.clock := rfl
@[simp] theorem State.setLimits_resetInput (x : GradeLimits) : (s.setLimits x).resetInput = s.resetInput := rfl
@[simp] theorem State.setLimits_settings (x : GradeLimits) : (s.setLimits x).settings = s.settings := rfl
@[simp] theorem State.setLimits_link (x : GradeLimits) : (s.setLimits x).link = s.link := rfl
@[simp] theorem State.setLimits_events (x : GradeLimits) : (s.setLimits x).events = s.events := rfl
@[simp] theorem State.setLimits_bays (x : GradeLimits) : (s.setLimits x).bays = s.bays := rfl
@[simp] theorem State.setLimits_arbiter (x : GradeLimits) : (s.setLimits x).arbiter = s.arbiter := rfl
@[simp] theorem State.setLimits_load (x : GradeLimits) : (s.setLimits x).load = s.load := rfl
@[simp] theorem State.setLimits_profiles (x : GradeLimits) : (s.setLimits x).profiles = s.profiles := rfl
@[simp] theorem State.setLimits_plans (x : GradeLimits) : (s.setLimits x).plans = s.plans := rfl
@[simp] theorem State.setLimits_limits (x : GradeLimits) : (s.setLimits x).limits = x := rfl
@[simp] theorem State.setLimits_records (x : GradeLimits) : (s.setLimits x).records = s.records := rfl
@[simp] theorem State.setLimits_positions (x : GradeLimits) : (s.setLimits x).positions = s.positions := rfl
@[simp] theorem State.setLimits_holdQueue (x : GradeLimits) : (s.setLimits x).holdQueue = s.holdQueue := rfl
@[simp] theorem State.setLimits_scanner (x : GradeLimits) : (s.setLimits x).scanner = s.scanner := rfl
@[simp] theorem State.setLimits_strings (x : GradeLimits) : (s.setLimits x).strings = s.strings := rfl
@[simp] theorem State.setLimits_lamps (x : GradeLimits) : (s.setLimits x).lamps = s.lamps := rfl
@[simp] theorem State.setLimits_pending (x : GradeLimits) : (s.setLimits x).pending = s.pending := rfl

/-! ## setRecords -/

@[simp] theorem State.setRecords_clock (x : Vector (Option Record) 240) : (s.setRecords x).clock = s.clock := rfl
@[simp] theorem State.setRecords_resetInput (x : Vector (Option Record) 240) : (s.setRecords x).resetInput = s.resetInput := rfl
@[simp] theorem State.setRecords_settings (x : Vector (Option Record) 240) : (s.setRecords x).settings = s.settings := rfl
@[simp] theorem State.setRecords_link (x : Vector (Option Record) 240) : (s.setRecords x).link = s.link := rfl
@[simp] theorem State.setRecords_events (x : Vector (Option Record) 240) : (s.setRecords x).events = s.events := rfl
@[simp] theorem State.setRecords_bays (x : Vector (Option Record) 240) : (s.setRecords x).bays = s.bays := rfl
@[simp] theorem State.setRecords_arbiter (x : Vector (Option Record) 240) : (s.setRecords x).arbiter = s.arbiter := rfl
@[simp] theorem State.setRecords_load (x : Vector (Option Record) 240) : (s.setRecords x).load = s.load := rfl
@[simp] theorem State.setRecords_profiles (x : Vector (Option Record) 240) : (s.setRecords x).profiles = s.profiles := rfl
@[simp] theorem State.setRecords_plans (x : Vector (Option Record) 240) : (s.setRecords x).plans = s.plans := rfl
@[simp] theorem State.setRecords_limits (x : Vector (Option Record) 240) : (s.setRecords x).limits = s.limits := rfl
@[simp] theorem State.setRecords_records (x : Vector (Option Record) 240) : (s.setRecords x).records = x := rfl
@[simp] theorem State.setRecords_positions (x : Vector (Option Record) 240) : (s.setRecords x).positions = s.positions := rfl
@[simp] theorem State.setRecords_holdQueue (x : Vector (Option Record) 240) : (s.setRecords x).holdQueue = s.holdQueue := rfl
@[simp] theorem State.setRecords_scanner (x : Vector (Option Record) 240) : (s.setRecords x).scanner = s.scanner := rfl
@[simp] theorem State.setRecords_strings (x : Vector (Option Record) 240) : (s.setRecords x).strings = s.strings := rfl
@[simp] theorem State.setRecords_lamps (x : Vector (Option Record) 240) : (s.setRecords x).lamps = s.lamps := rfl
@[simp] theorem State.setRecords_pending (x : Vector (Option Record) 240) : (s.setRecords x).pending = s.pending := rfl

/-! ## setPositions -/

@[simp] theorem State.setPositions_clock (x : Vector Position 240) : (s.setPositions x).clock = s.clock := rfl
@[simp] theorem State.setPositions_resetInput (x : Vector Position 240) : (s.setPositions x).resetInput = s.resetInput := rfl
@[simp] theorem State.setPositions_settings (x : Vector Position 240) : (s.setPositions x).settings = s.settings := rfl
@[simp] theorem State.setPositions_link (x : Vector Position 240) : (s.setPositions x).link = s.link := rfl
@[simp] theorem State.setPositions_events (x : Vector Position 240) : (s.setPositions x).events = s.events := rfl
@[simp] theorem State.setPositions_bays (x : Vector Position 240) : (s.setPositions x).bays = s.bays := rfl
@[simp] theorem State.setPositions_arbiter (x : Vector Position 240) : (s.setPositions x).arbiter = s.arbiter := rfl
@[simp] theorem State.setPositions_load (x : Vector Position 240) : (s.setPositions x).load = s.load := rfl
@[simp] theorem State.setPositions_profiles (x : Vector Position 240) : (s.setPositions x).profiles = s.profiles := rfl
@[simp] theorem State.setPositions_plans (x : Vector Position 240) : (s.setPositions x).plans = s.plans := rfl
@[simp] theorem State.setPositions_limits (x : Vector Position 240) : (s.setPositions x).limits = s.limits := rfl
@[simp] theorem State.setPositions_records (x : Vector Position 240) : (s.setPositions x).records = s.records := rfl
@[simp] theorem State.setPositions_positions (x : Vector Position 240) : (s.setPositions x).positions = x := rfl
@[simp] theorem State.setPositions_holdQueue (x : Vector Position 240) : (s.setPositions x).holdQueue = s.holdQueue := rfl
@[simp] theorem State.setPositions_scanner (x : Vector Position 240) : (s.setPositions x).scanner = s.scanner := rfl
@[simp] theorem State.setPositions_strings (x : Vector Position 240) : (s.setPositions x).strings = s.strings := rfl
@[simp] theorem State.setPositions_lamps (x : Vector Position 240) : (s.setPositions x).lamps = s.lamps := rfl
@[simp] theorem State.setPositions_pending (x : Vector Position 240) : (s.setPositions x).pending = s.pending := rfl

/-! ## setHoldQueue -/

@[simp] theorem State.setHoldQueue_clock (x : List BayNo) : (s.setHoldQueue x).clock = s.clock := rfl
@[simp] theorem State.setHoldQueue_resetInput (x : List BayNo) : (s.setHoldQueue x).resetInput = s.resetInput := rfl
@[simp] theorem State.setHoldQueue_settings (x : List BayNo) : (s.setHoldQueue x).settings = s.settings := rfl
@[simp] theorem State.setHoldQueue_link (x : List BayNo) : (s.setHoldQueue x).link = s.link := rfl
@[simp] theorem State.setHoldQueue_events (x : List BayNo) : (s.setHoldQueue x).events = s.events := rfl
@[simp] theorem State.setHoldQueue_bays (x : List BayNo) : (s.setHoldQueue x).bays = s.bays := rfl
@[simp] theorem State.setHoldQueue_arbiter (x : List BayNo) : (s.setHoldQueue x).arbiter = s.arbiter := rfl
@[simp] theorem State.setHoldQueue_load (x : List BayNo) : (s.setHoldQueue x).load = s.load := rfl
@[simp] theorem State.setHoldQueue_profiles (x : List BayNo) : (s.setHoldQueue x).profiles = s.profiles := rfl
@[simp] theorem State.setHoldQueue_plans (x : List BayNo) : (s.setHoldQueue x).plans = s.plans := rfl
@[simp] theorem State.setHoldQueue_limits (x : List BayNo) : (s.setHoldQueue x).limits = s.limits := rfl
@[simp] theorem State.setHoldQueue_records (x : List BayNo) : (s.setHoldQueue x).records = s.records := rfl
@[simp] theorem State.setHoldQueue_positions (x : List BayNo) : (s.setHoldQueue x).positions = s.positions := rfl
@[simp] theorem State.setHoldQueue_holdQueue (x : List BayNo) : (s.setHoldQueue x).holdQueue = x := rfl
@[simp] theorem State.setHoldQueue_scanner (x : List BayNo) : (s.setHoldQueue x).scanner = s.scanner := rfl
@[simp] theorem State.setHoldQueue_strings (x : List BayNo) : (s.setHoldQueue x).strings = s.strings := rfl
@[simp] theorem State.setHoldQueue_lamps (x : List BayNo) : (s.setHoldQueue x).lamps = s.lamps := rfl
@[simp] theorem State.setHoldQueue_pending (x : List BayNo) : (s.setHoldQueue x).pending = s.pending := rfl

/-! ## setScanner -/

@[simp] theorem State.setScanner_clock (x : Scanner) : (s.setScanner x).clock = s.clock := rfl
@[simp] theorem State.setScanner_resetInput (x : Scanner) : (s.setScanner x).resetInput = s.resetInput := rfl
@[simp] theorem State.setScanner_settings (x : Scanner) : (s.setScanner x).settings = s.settings := rfl
@[simp] theorem State.setScanner_link (x : Scanner) : (s.setScanner x).link = s.link := rfl
@[simp] theorem State.setScanner_events (x : Scanner) : (s.setScanner x).events = s.events := rfl
@[simp] theorem State.setScanner_bays (x : Scanner) : (s.setScanner x).bays = s.bays := rfl
@[simp] theorem State.setScanner_arbiter (x : Scanner) : (s.setScanner x).arbiter = s.arbiter := rfl
@[simp] theorem State.setScanner_load (x : Scanner) : (s.setScanner x).load = s.load := rfl
@[simp] theorem State.setScanner_profiles (x : Scanner) : (s.setScanner x).profiles = s.profiles := rfl
@[simp] theorem State.setScanner_plans (x : Scanner) : (s.setScanner x).plans = s.plans := rfl
@[simp] theorem State.setScanner_limits (x : Scanner) : (s.setScanner x).limits = s.limits := rfl
@[simp] theorem State.setScanner_records (x : Scanner) : (s.setScanner x).records = s.records := rfl
@[simp] theorem State.setScanner_positions (x : Scanner) : (s.setScanner x).positions = s.positions := rfl
@[simp] theorem State.setScanner_holdQueue (x : Scanner) : (s.setScanner x).holdQueue = s.holdQueue := rfl
@[simp] theorem State.setScanner_scanner (x : Scanner) : (s.setScanner x).scanner = x := rfl
@[simp] theorem State.setScanner_strings (x : Scanner) : (s.setScanner x).strings = s.strings := rfl
@[simp] theorem State.setScanner_lamps (x : Scanner) : (s.setScanner x).lamps = s.lamps := rfl
@[simp] theorem State.setScanner_pending (x : Scanner) : (s.setScanner x).pending = s.pending := rfl

/-! ## setStrings -/

@[simp] theorem State.setStrings_clock (x : Vector (Option StringEntry) 6) : (s.setStrings x).clock = s.clock := rfl
@[simp] theorem State.setStrings_resetInput (x : Vector (Option StringEntry) 6) : (s.setStrings x).resetInput = s.resetInput := rfl
@[simp] theorem State.setStrings_settings (x : Vector (Option StringEntry) 6) : (s.setStrings x).settings = s.settings := rfl
@[simp] theorem State.setStrings_link (x : Vector (Option StringEntry) 6) : (s.setStrings x).link = s.link := rfl
@[simp] theorem State.setStrings_events (x : Vector (Option StringEntry) 6) : (s.setStrings x).events = s.events := rfl
@[simp] theorem State.setStrings_bays (x : Vector (Option StringEntry) 6) : (s.setStrings x).bays = s.bays := rfl
@[simp] theorem State.setStrings_arbiter (x : Vector (Option StringEntry) 6) : (s.setStrings x).arbiter = s.arbiter := rfl
@[simp] theorem State.setStrings_load (x : Vector (Option StringEntry) 6) : (s.setStrings x).load = s.load := rfl
@[simp] theorem State.setStrings_profiles (x : Vector (Option StringEntry) 6) : (s.setStrings x).profiles = s.profiles := rfl
@[simp] theorem State.setStrings_plans (x : Vector (Option StringEntry) 6) : (s.setStrings x).plans = s.plans := rfl
@[simp] theorem State.setStrings_limits (x : Vector (Option StringEntry) 6) : (s.setStrings x).limits = s.limits := rfl
@[simp] theorem State.setStrings_records (x : Vector (Option StringEntry) 6) : (s.setStrings x).records = s.records := rfl
@[simp] theorem State.setStrings_positions (x : Vector (Option StringEntry) 6) : (s.setStrings x).positions = s.positions := rfl
@[simp] theorem State.setStrings_holdQueue (x : Vector (Option StringEntry) 6) : (s.setStrings x).holdQueue = s.holdQueue := rfl
@[simp] theorem State.setStrings_scanner (x : Vector (Option StringEntry) 6) : (s.setStrings x).scanner = s.scanner := rfl
@[simp] theorem State.setStrings_strings (x : Vector (Option StringEntry) 6) : (s.setStrings x).strings = x := rfl
@[simp] theorem State.setStrings_lamps (x : Vector (Option StringEntry) 6) : (s.setStrings x).lamps = s.lamps := rfl
@[simp] theorem State.setStrings_pending (x : Vector (Option StringEntry) 6) : (s.setStrings x).pending = s.pending := rfl

/-! ## setLamps -/

@[simp] theorem State.setLamps_clock (x : Lamps) : (s.setLamps x).clock = s.clock := rfl
@[simp] theorem State.setLamps_resetInput (x : Lamps) : (s.setLamps x).resetInput = s.resetInput := rfl
@[simp] theorem State.setLamps_settings (x : Lamps) : (s.setLamps x).settings = s.settings := rfl
@[simp] theorem State.setLamps_link (x : Lamps) : (s.setLamps x).link = s.link := rfl
@[simp] theorem State.setLamps_events (x : Lamps) : (s.setLamps x).events = s.events := rfl
@[simp] theorem State.setLamps_bays (x : Lamps) : (s.setLamps x).bays = s.bays := rfl
@[simp] theorem State.setLamps_arbiter (x : Lamps) : (s.setLamps x).arbiter = s.arbiter := rfl
@[simp] theorem State.setLamps_load (x : Lamps) : (s.setLamps x).load = s.load := rfl
@[simp] theorem State.setLamps_profiles (x : Lamps) : (s.setLamps x).profiles = s.profiles := rfl
@[simp] theorem State.setLamps_plans (x : Lamps) : (s.setLamps x).plans = s.plans := rfl
@[simp] theorem State.setLamps_limits (x : Lamps) : (s.setLamps x).limits = s.limits := rfl
@[simp] theorem State.setLamps_records (x : Lamps) : (s.setLamps x).records = s.records := rfl
@[simp] theorem State.setLamps_positions (x : Lamps) : (s.setLamps x).positions = s.positions := rfl
@[simp] theorem State.setLamps_holdQueue (x : Lamps) : (s.setLamps x).holdQueue = s.holdQueue := rfl
@[simp] theorem State.setLamps_scanner (x : Lamps) : (s.setLamps x).scanner = s.scanner := rfl
@[simp] theorem State.setLamps_strings (x : Lamps) : (s.setLamps x).strings = s.strings := rfl
@[simp] theorem State.setLamps_lamps (x : Lamps) : (s.setLamps x).lamps = x := rfl
@[simp] theorem State.setLamps_pending (x : Lamps) : (s.setLamps x).pending = s.pending := rfl

/-! ## setPending -/

@[simp] theorem State.setPending_clock (x : List Instr) : (s.setPending x).clock = s.clock := rfl
@[simp] theorem State.setPending_resetInput (x : List Instr) : (s.setPending x).resetInput = s.resetInput := rfl
@[simp] theorem State.setPending_settings (x : List Instr) : (s.setPending x).settings = s.settings := rfl
@[simp] theorem State.setPending_link (x : List Instr) : (s.setPending x).link = s.link := rfl
@[simp] theorem State.setPending_events (x : List Instr) : (s.setPending x).events = s.events := rfl
@[simp] theorem State.setPending_bays (x : List Instr) : (s.setPending x).bays = s.bays := rfl
@[simp] theorem State.setPending_arbiter (x : List Instr) : (s.setPending x).arbiter = s.arbiter := rfl
@[simp] theorem State.setPending_load (x : List Instr) : (s.setPending x).load = s.load := rfl
@[simp] theorem State.setPending_profiles (x : List Instr) : (s.setPending x).profiles = s.profiles := rfl
@[simp] theorem State.setPending_plans (x : List Instr) : (s.setPending x).plans = s.plans := rfl
@[simp] theorem State.setPending_limits (x : List Instr) : (s.setPending x).limits = s.limits := rfl
@[simp] theorem State.setPending_records (x : List Instr) : (s.setPending x).records = s.records := rfl
@[simp] theorem State.setPending_positions (x : List Instr) : (s.setPending x).positions = s.positions := rfl
@[simp] theorem State.setPending_holdQueue (x : List Instr) : (s.setPending x).holdQueue = s.holdQueue := rfl
@[simp] theorem State.setPending_scanner (x : List Instr) : (s.setPending x).scanner = s.scanner := rfl
@[simp] theorem State.setPending_strings (x : List Instr) : (s.setPending x).strings = s.strings := rfl
@[simp] theorem State.setPending_lamps (x : List Instr) : (s.setPending x).lamps = s.lamps := rfl
@[simp] theorem State.setPending_pending (x : List Instr) : (s.setPending x).pending = x := rfl

/-! ## Readings that an update of another item leaves as they are -/

@[simp] theorem State.setClock_bay (x : Clock) (b : BayNo) : (s.setClock x).bay b = s.bay b := rfl
@[simp] theorem State.setResetInput_bay (x : ResetInput) (b : BayNo) : (s.setResetInput x).bay b = s.bay b := rfl
@[simp] theorem State.setSettings_bay (x : Settings) (b : BayNo) : (s.setSettings x).bay b = s.bay b := rfl
@[simp] theorem State.setLink_bay (x : Link) (b : BayNo) : (s.setLink x).bay b = s.bay b := rfl
@[simp] theorem State.setEvents_bay (x : Events) (b : BayNo) : (s.setEvents x).bay b = s.bay b := rfl
@[simp] theorem State.setArbiter_bay (x : Arbiter) (b : BayNo) : (s.setArbiter x).bay b = s.bay b := rfl
@[simp] theorem State.setLoad_bay (x : Load) (b : BayNo) : (s.setLoad x).bay b = s.bay b := rfl
@[simp] theorem State.setProfiles_bay (x : Vector (Option Profile) 4) (b : BayNo) : (s.setProfiles x).bay b = s.bay b := rfl
@[simp] theorem State.setPlans_bay (x : Vector (Option Plan) 4) (b : BayNo) : (s.setPlans x).bay b = s.bay b := rfl
@[simp] theorem State.setLimits_bay (x : GradeLimits) (b : BayNo) : (s.setLimits x).bay b = s.bay b := rfl
@[simp] theorem State.setRecords_bay (x : Vector (Option Record) 240) (b : BayNo) : (s.setRecords x).bay b = s.bay b := rfl
@[simp] theorem State.setPositions_bay (x : Vector Position 240) (b : BayNo) : (s.setPositions x).bay b = s.bay b := rfl
@[simp] theorem State.setHoldQueue_bay (x : List BayNo) (b : BayNo) : (s.setHoldQueue x).bay b = s.bay b := rfl
@[simp] theorem State.setScanner_bay (x : Scanner) (b : BayNo) : (s.setScanner x).bay b = s.bay b := rfl
@[simp] theorem State.setStrings_bay (x : Vector (Option StringEntry) 6) (b : BayNo) : (s.setStrings x).bay b = s.bay b := rfl
@[simp] theorem State.setLamps_bay (x : Lamps) (b : BayNo) : (s.setLamps x).bay b = s.bay b := rfl
@[simp] theorem State.setPending_bay (x : List Instr) (b : BayNo) : (s.setPending x).bay b = s.bay b := rfl

@[simp] theorem State.setClock_record (x : Clock) (r : RecordNo) : (s.setClock x).record r = s.record r := rfl
@[simp] theorem State.setResetInput_record (x : ResetInput) (r : RecordNo) : (s.setResetInput x).record r = s.record r := rfl
@[simp] theorem State.setSettings_record (x : Settings) (r : RecordNo) : (s.setSettings x).record r = s.record r := rfl
@[simp] theorem State.setLink_record (x : Link) (r : RecordNo) : (s.setLink x).record r = s.record r := rfl
@[simp] theorem State.setEvents_record (x : Events) (r : RecordNo) : (s.setEvents x).record r = s.record r := rfl
@[simp] theorem State.setBays_record (x : Vector Bay 16) (r : RecordNo) : (s.setBays x).record r = s.record r := rfl
@[simp] theorem State.setArbiter_record (x : Arbiter) (r : RecordNo) : (s.setArbiter x).record r = s.record r := rfl
@[simp] theorem State.setLoad_record (x : Load) (r : RecordNo) : (s.setLoad x).record r = s.record r := rfl
@[simp] theorem State.setProfiles_record (x : Vector (Option Profile) 4) (r : RecordNo) : (s.setProfiles x).record r = s.record r := rfl
@[simp] theorem State.setPlans_record (x : Vector (Option Plan) 4) (r : RecordNo) : (s.setPlans x).record r = s.record r := rfl
@[simp] theorem State.setLimits_record (x : GradeLimits) (r : RecordNo) : (s.setLimits x).record r = s.record r := rfl
@[simp] theorem State.setPositions_record (x : Vector Position 240) (r : RecordNo) : (s.setPositions x).record r = s.record r := rfl
@[simp] theorem State.setHoldQueue_record (x : List BayNo) (r : RecordNo) : (s.setHoldQueue x).record r = s.record r := rfl
@[simp] theorem State.setScanner_record (x : Scanner) (r : RecordNo) : (s.setScanner x).record r = s.record r := rfl
@[simp] theorem State.setStrings_record (x : Vector (Option StringEntry) 6) (r : RecordNo) : (s.setStrings x).record r = s.record r := rfl
@[simp] theorem State.setLamps_record (x : Lamps) (r : RecordNo) : (s.setLamps x).record r = s.record r := rfl
@[simp] theorem State.setPending_record (x : List Instr) (r : RecordNo) : (s.setPending x).record r = s.record r := rfl

@[simp] theorem State.setClock_position (x : Clock) (p : PositionNo) : (s.setClock x).position p = s.position p := rfl
@[simp] theorem State.setResetInput_position (x : ResetInput) (p : PositionNo) : (s.setResetInput x).position p = s.position p := rfl
@[simp] theorem State.setSettings_position (x : Settings) (p : PositionNo) : (s.setSettings x).position p = s.position p := rfl
@[simp] theorem State.setLink_position (x : Link) (p : PositionNo) : (s.setLink x).position p = s.position p := rfl
@[simp] theorem State.setEvents_position (x : Events) (p : PositionNo) : (s.setEvents x).position p = s.position p := rfl
@[simp] theorem State.setBays_position (x : Vector Bay 16) (p : PositionNo) : (s.setBays x).position p = s.position p := rfl
@[simp] theorem State.setArbiter_position (x : Arbiter) (p : PositionNo) : (s.setArbiter x).position p = s.position p := rfl
@[simp] theorem State.setLoad_position (x : Load) (p : PositionNo) : (s.setLoad x).position p = s.position p := rfl
@[simp] theorem State.setProfiles_position (x : Vector (Option Profile) 4) (p : PositionNo) : (s.setProfiles x).position p = s.position p := rfl
@[simp] theorem State.setPlans_position (x : Vector (Option Plan) 4) (p : PositionNo) : (s.setPlans x).position p = s.position p := rfl
@[simp] theorem State.setLimits_position (x : GradeLimits) (p : PositionNo) : (s.setLimits x).position p = s.position p := rfl
@[simp] theorem State.setRecords_position (x : Vector (Option Record) 240) (p : PositionNo) : (s.setRecords x).position p = s.position p := rfl
@[simp] theorem State.setHoldQueue_position (x : List BayNo) (p : PositionNo) : (s.setHoldQueue x).position p = s.position p := rfl
@[simp] theorem State.setScanner_position (x : Scanner) (p : PositionNo) : (s.setScanner x).position p = s.position p := rfl
@[simp] theorem State.setStrings_position (x : Vector (Option StringEntry) 6) (p : PositionNo) : (s.setStrings x).position p = s.position p := rfl
@[simp] theorem State.setLamps_position (x : Lamps) (p : PositionNo) : (s.setLamps x).position p = s.position p := rfl
@[simp] theorem State.setPending_position (x : List Instr) (p : PositionNo) : (s.setPending x).position p = s.position p := rfl

@[simp] theorem State.setClock_string (x : Clock) (k : StringNo) : (s.setClock x).string k = s.string k := rfl
@[simp] theorem State.setResetInput_string (x : ResetInput) (k : StringNo) : (s.setResetInput x).string k = s.string k := rfl
@[simp] theorem State.setSettings_string (x : Settings) (k : StringNo) : (s.setSettings x).string k = s.string k := rfl
@[simp] theorem State.setLink_string (x : Link) (k : StringNo) : (s.setLink x).string k = s.string k := rfl
@[simp] theorem State.setEvents_string (x : Events) (k : StringNo) : (s.setEvents x).string k = s.string k := rfl
@[simp] theorem State.setBays_string (x : Vector Bay 16) (k : StringNo) : (s.setBays x).string k = s.string k := rfl
@[simp] theorem State.setArbiter_string (x : Arbiter) (k : StringNo) : (s.setArbiter x).string k = s.string k := rfl
@[simp] theorem State.setLoad_string (x : Load) (k : StringNo) : (s.setLoad x).string k = s.string k := rfl
@[simp] theorem State.setProfiles_string (x : Vector (Option Profile) 4) (k : StringNo) : (s.setProfiles x).string k = s.string k := rfl
@[simp] theorem State.setPlans_string (x : Vector (Option Plan) 4) (k : StringNo) : (s.setPlans x).string k = s.string k := rfl
@[simp] theorem State.setLimits_string (x : GradeLimits) (k : StringNo) : (s.setLimits x).string k = s.string k := rfl
@[simp] theorem State.setRecords_string (x : Vector (Option Record) 240) (k : StringNo) : (s.setRecords x).string k = s.string k := rfl
@[simp] theorem State.setPositions_string (x : Vector Position 240) (k : StringNo) : (s.setPositions x).string k = s.string k := rfl
@[simp] theorem State.setHoldQueue_string (x : List BayNo) (k : StringNo) : (s.setHoldQueue x).string k = s.string k := rfl
@[simp] theorem State.setScanner_string (x : Scanner) (k : StringNo) : (s.setScanner x).string k = s.string k := rfl
@[simp] theorem State.setLamps_string (x : Lamps) (k : StringNo) : (s.setLamps x).string k = s.string k := rfl
@[simp] theorem State.setPending_string (x : List Instr) (k : StringNo) : (s.setPending x).string k = s.string k := rfl

@[simp] theorem State.setResetInput_now (x : ResetInput) : (s.setResetInput x).now = s.now := rfl
@[simp] theorem State.setSettings_now (x : Settings) : (s.setSettings x).now = s.now := rfl
@[simp] theorem State.setLink_now (x : Link) : (s.setLink x).now = s.now := rfl
@[simp] theorem State.setEvents_now (x : Events) : (s.setEvents x).now = s.now := rfl
@[simp] theorem State.setBays_now (x : Vector Bay 16) : (s.setBays x).now = s.now := rfl
@[simp] theorem State.setArbiter_now (x : Arbiter) : (s.setArbiter x).now = s.now := rfl
@[simp] theorem State.setLoad_now (x : Load) : (s.setLoad x).now = s.now := rfl
@[simp] theorem State.setProfiles_now (x : Vector (Option Profile) 4) : (s.setProfiles x).now = s.now := rfl
@[simp] theorem State.setPlans_now (x : Vector (Option Plan) 4) : (s.setPlans x).now = s.now := rfl
@[simp] theorem State.setLimits_now (x : GradeLimits) : (s.setLimits x).now = s.now := rfl
@[simp] theorem State.setRecords_now (x : Vector (Option Record) 240) : (s.setRecords x).now = s.now := rfl
@[simp] theorem State.setPositions_now (x : Vector Position 240) : (s.setPositions x).now = s.now := rfl
@[simp] theorem State.setHoldQueue_now (x : List BayNo) : (s.setHoldQueue x).now = s.now := rfl
@[simp] theorem State.setScanner_now (x : Scanner) : (s.setScanner x).now = s.now := rfl
@[simp] theorem State.setStrings_now (x : Vector (Option StringEntry) 6) : (s.setStrings x).now = s.now := rfl
@[simp] theorem State.setLamps_now (x : Lamps) : (s.setLamps x).now = s.now := rfl
@[simp] theorem State.setPending_now (x : List Instr) : (s.setPending x).now = s.now := rfl

@[simp] theorem State.setResetInput_seconds (x : ResetInput) : (s.setResetInput x).seconds = s.seconds := rfl
@[simp] theorem State.setSettings_seconds (x : Settings) : (s.setSettings x).seconds = s.seconds := rfl
@[simp] theorem State.setLink_seconds (x : Link) : (s.setLink x).seconds = s.seconds := rfl
@[simp] theorem State.setEvents_seconds (x : Events) : (s.setEvents x).seconds = s.seconds := rfl
@[simp] theorem State.setBays_seconds (x : Vector Bay 16) : (s.setBays x).seconds = s.seconds := rfl
@[simp] theorem State.setArbiter_seconds (x : Arbiter) : (s.setArbiter x).seconds = s.seconds := rfl
@[simp] theorem State.setLoad_seconds (x : Load) : (s.setLoad x).seconds = s.seconds := rfl
@[simp] theorem State.setProfiles_seconds (x : Vector (Option Profile) 4) : (s.setProfiles x).seconds = s.seconds := rfl
@[simp] theorem State.setPlans_seconds (x : Vector (Option Plan) 4) : (s.setPlans x).seconds = s.seconds := rfl
@[simp] theorem State.setLimits_seconds (x : GradeLimits) : (s.setLimits x).seconds = s.seconds := rfl
@[simp] theorem State.setRecords_seconds (x : Vector (Option Record) 240) : (s.setRecords x).seconds = s.seconds := rfl
@[simp] theorem State.setPositions_seconds (x : Vector Position 240) : (s.setPositions x).seconds = s.seconds := rfl
@[simp] theorem State.setHoldQueue_seconds (x : List BayNo) : (s.setHoldQueue x).seconds = s.seconds := rfl
@[simp] theorem State.setScanner_seconds (x : Scanner) : (s.setScanner x).seconds = s.seconds := rfl
@[simp] theorem State.setStrings_seconds (x : Vector (Option StringEntry) 6) : (s.setStrings x).seconds = s.seconds := rfl
@[simp] theorem State.setLamps_seconds (x : Lamps) : (s.setLamps x).seconds = s.seconds := rfl
@[simp] theorem State.setPending_seconds (x : List Instr) : (s.setPending x).seconds = s.seconds := rfl

@[simp] theorem State.setClock_heldInReset (x : Clock) : (s.setClock x).heldInReset = s.heldInReset := rfl
@[simp] theorem State.setSettings_heldInReset (x : Settings) : (s.setSettings x).heldInReset = s.heldInReset := rfl
@[simp] theorem State.setLink_heldInReset (x : Link) : (s.setLink x).heldInReset = s.heldInReset := rfl
@[simp] theorem State.setEvents_heldInReset (x : Events) : (s.setEvents x).heldInReset = s.heldInReset := rfl
@[simp] theorem State.setBays_heldInReset (x : Vector Bay 16) : (s.setBays x).heldInReset = s.heldInReset := rfl
@[simp] theorem State.setArbiter_heldInReset (x : Arbiter) : (s.setArbiter x).heldInReset = s.heldInReset := rfl
@[simp] theorem State.setLoad_heldInReset (x : Load) : (s.setLoad x).heldInReset = s.heldInReset := rfl
@[simp] theorem State.setProfiles_heldInReset (x : Vector (Option Profile) 4) : (s.setProfiles x).heldInReset = s.heldInReset := rfl
@[simp] theorem State.setPlans_heldInReset (x : Vector (Option Plan) 4) : (s.setPlans x).heldInReset = s.heldInReset := rfl
@[simp] theorem State.setLimits_heldInReset (x : GradeLimits) : (s.setLimits x).heldInReset = s.heldInReset := rfl
@[simp] theorem State.setRecords_heldInReset (x : Vector (Option Record) 240) : (s.setRecords x).heldInReset = s.heldInReset := rfl
@[simp] theorem State.setPositions_heldInReset (x : Vector Position 240) : (s.setPositions x).heldInReset = s.heldInReset := rfl
@[simp] theorem State.setHoldQueue_heldInReset (x : List BayNo) : (s.setHoldQueue x).heldInReset = s.heldInReset := rfl
@[simp] theorem State.setScanner_heldInReset (x : Scanner) : (s.setScanner x).heldInReset = s.heldInReset := rfl
@[simp] theorem State.setStrings_heldInReset (x : Vector (Option StringEntry) 6) : (s.setStrings x).heldInReset = s.heldInReset := rfl
@[simp] theorem State.setLamps_heldInReset (x : Lamps) : (s.setLamps x).heldInReset = s.heldInReset := rfl
@[simp] theorem State.setPending_heldInReset (x : List Instr) : (s.setPending x).heldInReset = s.heldInReset := rfl

/-! ## Tables after a write -/

theorem State.setBay_bay (i j : BayNo) (x : Bay) : (s.setBay i x).bay j = if i = j then x else s.bay j := by
  simp [State.setBay, State.bay, Vector.getElem_set, Fin.ext_iff]

@[simp] theorem State.setBay_bay_self (i : BayNo) (x : Bay) : (s.setBay i x).bay i = x := by
  simp [State.setBay_bay]

theorem State.setBay_bay_other {i j : BayNo} (x : Bay) (h : i ≠ j) : (s.setBay i x).bay j = s.bay j := by
  simp [State.setBay_bay, h]

@[simp] theorem State.setBay_clock (i : BayNo) (x : Bay) : (s.setBay i x).clock = s.clock := rfl
@[simp] theorem State.setBay_resetInput (i : BayNo) (x : Bay) : (s.setBay i x).resetInput = s.resetInput := rfl
@[simp] theorem State.setBay_settings (i : BayNo) (x : Bay) : (s.setBay i x).settings = s.settings := rfl
@[simp] theorem State.setBay_link (i : BayNo) (x : Bay) : (s.setBay i x).link = s.link := rfl
@[simp] theorem State.setBay_events (i : BayNo) (x : Bay) : (s.setBay i x).events = s.events := rfl
@[simp] theorem State.setBay_arbiter (i : BayNo) (x : Bay) : (s.setBay i x).arbiter = s.arbiter := rfl
@[simp] theorem State.setBay_load (i : BayNo) (x : Bay) : (s.setBay i x).load = s.load := rfl
@[simp] theorem State.setBay_profiles (i : BayNo) (x : Bay) : (s.setBay i x).profiles = s.profiles := rfl
@[simp] theorem State.setBay_plans (i : BayNo) (x : Bay) : (s.setBay i x).plans = s.plans := rfl
@[simp] theorem State.setBay_limits (i : BayNo) (x : Bay) : (s.setBay i x).limits = s.limits := rfl
@[simp] theorem State.setBay_records (i : BayNo) (x : Bay) : (s.setBay i x).records = s.records := rfl
@[simp] theorem State.setBay_positions (i : BayNo) (x : Bay) : (s.setBay i x).positions = s.positions := rfl
@[simp] theorem State.setBay_holdQueue (i : BayNo) (x : Bay) : (s.setBay i x).holdQueue = s.holdQueue := rfl
@[simp] theorem State.setBay_scanner (i : BayNo) (x : Bay) : (s.setBay i x).scanner = s.scanner := rfl
@[simp] theorem State.setBay_strings (i : BayNo) (x : Bay) : (s.setBay i x).strings = s.strings := rfl
@[simp] theorem State.setBay_lamps (i : BayNo) (x : Bay) : (s.setBay i x).lamps = s.lamps := rfl
@[simp] theorem State.setBay_pending (i : BayNo) (x : Bay) : (s.setBay i x).pending = s.pending := rfl

@[simp] theorem State.setBay_record (i : BayNo) (x : Bay) (j : RecordNo) : (s.setBay i x).record j = s.record j := rfl
@[simp] theorem State.setBay_position (i : BayNo) (x : Bay) (j : PositionNo) : (s.setBay i x).position j = s.position j := rfl
@[simp] theorem State.setBay_string (i : BayNo) (x : Bay) (j : StringNo) : (s.setBay i x).string j = s.string j := rfl
@[simp] theorem State.setBay_now (i : BayNo) (x : Bay) : (s.setBay i x).now = s.now := rfl
@[simp] theorem State.setBay_seconds (i : BayNo) (x : Bay) : (s.setBay i x).seconds = s.seconds := rfl
@[simp] theorem State.setBay_heldInReset (i : BayNo) (x : Bay) : (s.setBay i x).heldInReset = s.heldInReset := rfl

theorem State.setRecord_record (i j : RecordNo) (x : Option Record) : (s.setRecord i x).record j = if i = j then x else s.record j := by
  simp [State.setRecord, State.record, Vector.getElem_set, Fin.ext_iff]

@[simp] theorem State.setRecord_record_self (i : RecordNo) (x : Option Record) : (s.setRecord i x).record i = x := by
  simp [State.setRecord_record]

theorem State.setRecord_record_other {i j : RecordNo} (x : Option Record) (h : i ≠ j) : (s.setRecord i x).record j = s.record j := by
  simp [State.setRecord_record, h]

@[simp] theorem State.setRecord_clock (i : RecordNo) (x : Option Record) : (s.setRecord i x).clock = s.clock := rfl
@[simp] theorem State.setRecord_resetInput (i : RecordNo) (x : Option Record) : (s.setRecord i x).resetInput = s.resetInput := rfl
@[simp] theorem State.setRecord_settings (i : RecordNo) (x : Option Record) : (s.setRecord i x).settings = s.settings := rfl
@[simp] theorem State.setRecord_link (i : RecordNo) (x : Option Record) : (s.setRecord i x).link = s.link := rfl
@[simp] theorem State.setRecord_events (i : RecordNo) (x : Option Record) : (s.setRecord i x).events = s.events := rfl
@[simp] theorem State.setRecord_bays (i : RecordNo) (x : Option Record) : (s.setRecord i x).bays = s.bays := rfl
@[simp] theorem State.setRecord_arbiter (i : RecordNo) (x : Option Record) : (s.setRecord i x).arbiter = s.arbiter := rfl
@[simp] theorem State.setRecord_load (i : RecordNo) (x : Option Record) : (s.setRecord i x).load = s.load := rfl
@[simp] theorem State.setRecord_profiles (i : RecordNo) (x : Option Record) : (s.setRecord i x).profiles = s.profiles := rfl
@[simp] theorem State.setRecord_plans (i : RecordNo) (x : Option Record) : (s.setRecord i x).plans = s.plans := rfl
@[simp] theorem State.setRecord_limits (i : RecordNo) (x : Option Record) : (s.setRecord i x).limits = s.limits := rfl
@[simp] theorem State.setRecord_positions (i : RecordNo) (x : Option Record) : (s.setRecord i x).positions = s.positions := rfl
@[simp] theorem State.setRecord_holdQueue (i : RecordNo) (x : Option Record) : (s.setRecord i x).holdQueue = s.holdQueue := rfl
@[simp] theorem State.setRecord_scanner (i : RecordNo) (x : Option Record) : (s.setRecord i x).scanner = s.scanner := rfl
@[simp] theorem State.setRecord_strings (i : RecordNo) (x : Option Record) : (s.setRecord i x).strings = s.strings := rfl
@[simp] theorem State.setRecord_lamps (i : RecordNo) (x : Option Record) : (s.setRecord i x).lamps = s.lamps := rfl
@[simp] theorem State.setRecord_pending (i : RecordNo) (x : Option Record) : (s.setRecord i x).pending = s.pending := rfl

@[simp] theorem State.setRecord_bay (i : RecordNo) (x : Option Record) (j : BayNo) : (s.setRecord i x).bay j = s.bay j := rfl
@[simp] theorem State.setRecord_position (i : RecordNo) (x : Option Record) (j : PositionNo) : (s.setRecord i x).position j = s.position j := rfl
@[simp] theorem State.setRecord_string (i : RecordNo) (x : Option Record) (j : StringNo) : (s.setRecord i x).string j = s.string j := rfl
@[simp] theorem State.setRecord_now (i : RecordNo) (x : Option Record) : (s.setRecord i x).now = s.now := rfl
@[simp] theorem State.setRecord_seconds (i : RecordNo) (x : Option Record) : (s.setRecord i x).seconds = s.seconds := rfl
@[simp] theorem State.setRecord_heldInReset (i : RecordNo) (x : Option Record) : (s.setRecord i x).heldInReset = s.heldInReset := rfl

theorem State.setPosition_position (i j : PositionNo) (x : Position) : (s.setPosition i x).position j = if i = j then x else s.position j := by
  simp [State.setPosition, State.position, Vector.getElem_set, Fin.ext_iff]

@[simp] theorem State.setPosition_position_self (i : PositionNo) (x : Position) : (s.setPosition i x).position i = x := by
  simp [State.setPosition_position]

theorem State.setPosition_position_other {i j : PositionNo} (x : Position) (h : i ≠ j) : (s.setPosition i x).position j = s.position j := by
  simp [State.setPosition_position, h]

@[simp] theorem State.setPosition_clock (i : PositionNo) (x : Position) : (s.setPosition i x).clock = s.clock := rfl
@[simp] theorem State.setPosition_resetInput (i : PositionNo) (x : Position) : (s.setPosition i x).resetInput = s.resetInput := rfl
@[simp] theorem State.setPosition_settings (i : PositionNo) (x : Position) : (s.setPosition i x).settings = s.settings := rfl
@[simp] theorem State.setPosition_link (i : PositionNo) (x : Position) : (s.setPosition i x).link = s.link := rfl
@[simp] theorem State.setPosition_events (i : PositionNo) (x : Position) : (s.setPosition i x).events = s.events := rfl
@[simp] theorem State.setPosition_bays (i : PositionNo) (x : Position) : (s.setPosition i x).bays = s.bays := rfl
@[simp] theorem State.setPosition_arbiter (i : PositionNo) (x : Position) : (s.setPosition i x).arbiter = s.arbiter := rfl
@[simp] theorem State.setPosition_load (i : PositionNo) (x : Position) : (s.setPosition i x).load = s.load := rfl
@[simp] theorem State.setPosition_profiles (i : PositionNo) (x : Position) : (s.setPosition i x).profiles = s.profiles := rfl
@[simp] theorem State.setPosition_plans (i : PositionNo) (x : Position) : (s.setPosition i x).plans = s.plans := rfl
@[simp] theorem State.setPosition_limits (i : PositionNo) (x : Position) : (s.setPosition i x).limits = s.limits := rfl
@[simp] theorem State.setPosition_records (i : PositionNo) (x : Position) : (s.setPosition i x).records = s.records := rfl
@[simp] theorem State.setPosition_holdQueue (i : PositionNo) (x : Position) : (s.setPosition i x).holdQueue = s.holdQueue := rfl
@[simp] theorem State.setPosition_scanner (i : PositionNo) (x : Position) : (s.setPosition i x).scanner = s.scanner := rfl
@[simp] theorem State.setPosition_strings (i : PositionNo) (x : Position) : (s.setPosition i x).strings = s.strings := rfl
@[simp] theorem State.setPosition_lamps (i : PositionNo) (x : Position) : (s.setPosition i x).lamps = s.lamps := rfl
@[simp] theorem State.setPosition_pending (i : PositionNo) (x : Position) : (s.setPosition i x).pending = s.pending := rfl

@[simp] theorem State.setPosition_bay (i : PositionNo) (x : Position) (j : BayNo) : (s.setPosition i x).bay j = s.bay j := rfl
@[simp] theorem State.setPosition_record (i : PositionNo) (x : Position) (j : RecordNo) : (s.setPosition i x).record j = s.record j := rfl
@[simp] theorem State.setPosition_string (i : PositionNo) (x : Position) (j : StringNo) : (s.setPosition i x).string j = s.string j := rfl
@[simp] theorem State.setPosition_now (i : PositionNo) (x : Position) : (s.setPosition i x).now = s.now := rfl
@[simp] theorem State.setPosition_seconds (i : PositionNo) (x : Position) : (s.setPosition i x).seconds = s.seconds := rfl
@[simp] theorem State.setPosition_heldInReset (i : PositionNo) (x : Position) : (s.setPosition i x).heldInReset = s.heldInReset := rfl

theorem State.setString_string (i j : StringNo) (x : Option StringEntry) : (s.setString i x).string j = if i = j then x else s.string j := by
  simp [State.setString, State.string, Vector.getElem_set, Fin.ext_iff]

@[simp] theorem State.setString_string_self (i : StringNo) (x : Option StringEntry) : (s.setString i x).string i = x := by
  simp [State.setString_string]

theorem State.setString_string_other {i j : StringNo} (x : Option StringEntry) (h : i ≠ j) : (s.setString i x).string j = s.string j := by
  simp [State.setString_string, h]

@[simp] theorem State.setString_clock (i : StringNo) (x : Option StringEntry) : (s.setString i x).clock = s.clock := rfl
@[simp] theorem State.setString_resetInput (i : StringNo) (x : Option StringEntry) : (s.setString i x).resetInput = s.resetInput := rfl
@[simp] theorem State.setString_settings (i : StringNo) (x : Option StringEntry) : (s.setString i x).settings = s.settings := rfl
@[simp] theorem State.setString_link (i : StringNo) (x : Option StringEntry) : (s.setString i x).link = s.link := rfl
@[simp] theorem State.setString_events (i : StringNo) (x : Option StringEntry) : (s.setString i x).events = s.events := rfl
@[simp] theorem State.setString_bays (i : StringNo) (x : Option StringEntry) : (s.setString i x).bays = s.bays := rfl
@[simp] theorem State.setString_arbiter (i : StringNo) (x : Option StringEntry) : (s.setString i x).arbiter = s.arbiter := rfl
@[simp] theorem State.setString_load (i : StringNo) (x : Option StringEntry) : (s.setString i x).load = s.load := rfl
@[simp] theorem State.setString_profiles (i : StringNo) (x : Option StringEntry) : (s.setString i x).profiles = s.profiles := rfl
@[simp] theorem State.setString_plans (i : StringNo) (x : Option StringEntry) : (s.setString i x).plans = s.plans := rfl
@[simp] theorem State.setString_limits (i : StringNo) (x : Option StringEntry) : (s.setString i x).limits = s.limits := rfl
@[simp] theorem State.setString_records (i : StringNo) (x : Option StringEntry) : (s.setString i x).records = s.records := rfl
@[simp] theorem State.setString_positions (i : StringNo) (x : Option StringEntry) : (s.setString i x).positions = s.positions := rfl
@[simp] theorem State.setString_holdQueue (i : StringNo) (x : Option StringEntry) : (s.setString i x).holdQueue = s.holdQueue := rfl
@[simp] theorem State.setString_scanner (i : StringNo) (x : Option StringEntry) : (s.setString i x).scanner = s.scanner := rfl
@[simp] theorem State.setString_lamps (i : StringNo) (x : Option StringEntry) : (s.setString i x).lamps = s.lamps := rfl
@[simp] theorem State.setString_pending (i : StringNo) (x : Option StringEntry) : (s.setString i x).pending = s.pending := rfl

@[simp] theorem State.setString_bay (i : StringNo) (x : Option StringEntry) (j : BayNo) : (s.setString i x).bay j = s.bay j := rfl
@[simp] theorem State.setString_record (i : StringNo) (x : Option StringEntry) (j : RecordNo) : (s.setString i x).record j = s.record j := rfl
@[simp] theorem State.setString_position (i : StringNo) (x : Option StringEntry) (j : PositionNo) : (s.setString i x).position j = s.position j := rfl
@[simp] theorem State.setString_now (i : StringNo) (x : Option StringEntry) : (s.setString i x).now = s.now := rfl
@[simp] theorem State.setString_seconds (i : StringNo) (x : Option StringEntry) : (s.setString i x).seconds = s.seconds := rfl
@[simp] theorem State.setString_heldInReset (i : StringNo) (x : Option StringEntry) : (s.setString i x).heldInReset = s.heldInReset := rfl

end Sys2Proof.Machine
end

