-- ==== Sys2Proof/Laws/Pairing.lean ====
section
/-! SUPPORT. What the pairing engine's searches can answer: a window or a substitution takes its records from the candidates it is
given, and every eligible record stands on the shelf. -/

namespace Sys2Proof.Machine

/-- Record `r`, if it is in use, stands at a HELD position by its state (R82, R83). -/
def State.onShelf (r : RecordNo) (s : State) : Prop := ∀ x, s.record r = some x → x.state.seat r = .held r

/-- An eligible record is AVAILABLE, so it stands on the shelf (R126). -/
theorem State.eligible_onShelf {s : State} {q : StringRequest} {c : Candidate} (h : c ∈ s.eligible q) : s.onShelf c.record := by
  unfold State.eligible at h
  obtain ⟨r, -, hr⟩ := List.mem_filterMap.1 h
  split at hr
  · next x hx =>
    split at hr
    · next ha =>
      cases hr
      intro y hy
      rw [hx] at hy; cases hy
      simp only [StringRequest.accepts, Bool.and_eq_true, beq_iff_eq] at ha
      rw [ha.1.1.1.1.1]; rfl
    · cases hr
  · cases hr

theorem mem_insertByPrimary {m : StringMode} {c x : Candidate} {cs : List Candidate} :
    x ∈ insertByPrimary m c cs → x = c ∨ x ∈ cs := by
  induction cs with
  | nil => simp [insertByPrimary]
  | cons d ds ih =>
    unfold insertByPrimary
    split
    · simp
    · intro h
      rcases List.mem_cons.1 h with rfl | h
      · simp
      · rcases ih h with h | h <;> simp [h]

theorem mem_sortByPrimary {m : StringMode} {x : Candidate} {cs : List Candidate} (h : x ∈ sortByPrimary m cs) : x ∈ cs := by
  unfold sortByPrimary at h
  suffices H : ∀ (cs sorted : List Candidate),
      x ∈ cs.foldl (fun sorted c => insertByPrimary m c sorted) sorted → x ∈ sorted ∨ x ∈ cs by simpa using H cs [] h
  intro cs
  induction cs with
  | nil => exact fun _ h => .inl h
  | cons c cs ih =>
    intro sorted h
    rcases ih _ h with h | h
    · rcases mem_insertByPrimary h with rfl | h <;> simp [*]
    · simp [h]

theorem mem_windows {n : Nat} {x : Candidate} {w : List Candidate} : ∀ {cs : List Candidate}, w ∈ windows n cs → x ∈ w → x ∈ cs
  | [], h, _ => by simp [windows] at h
  | c :: cs, h, hx => by
    unfold windows at h
    split at h
    · rcases List.mem_cons.1 h with rfl | h
      · exact List.mem_of_mem_take hx
      · exact List.mem_cons_of_mem _ (mem_windows h hx)
    · simp at h

theorem mem_chooseWindow {m : StringMode} {w : List Candidate} {ws : List (List Candidate)} (h : chooseWindow m ws = some w) :
    w ∈ ws := by
  unfold chooseWindow at h
  suffices H : ∀ (ws : List (List Candidate)) (best : Option (List Candidate)),
      ws.foldl (fun best w => match best with
        | none => some w
        | some x => if m.beats w x then some w else some x) best = some w → best = some w ∨ w ∈ ws by
    simpa using H ws none h
  intro ws
  induction ws with
  | nil => exact fun _ h => .inl h
  | cons v ws ih =>
    intro best h
    rcases ih _ h with h | h
    · dsimp only at h
      split at h
      · cases h; simp
      · split at h <;> cases h <;> simp
    · simp [h]

/-- A search answers records of its candidates (R128-R130). -/
theorem StringRequest.mem_search {q : StringRequest} {cs w : List Candidate} (h : q.search cs = some w) :
    ∀ c ∈ w, c ∈ cs := by
  intro c hc
  exact mem_sortByPrimary (mem_windows (List.mem_filter.1 (mem_chooseWindow h)).1 hc)

theorem StringRequest.mem_chooseSubstitute {q : StringRequest} {vs : List SlotValues} {cs : List Candidate} {c : Candidate}
    (h : q.chooseSubstitute vs cs = some c) : c ∈ cs := by
  unfold StringRequest.chooseSubstitute at h
  suffices H : ∀ (ds : List Candidate) (best : Option Candidate),
      ds.foldl (fun best c => match best with
        | none => some c
        | some d =>
          if spread q.mode.primary (c.values :: vs) < spread q.mode.primary (d.values :: vs) then some c else some d) best
        = some c → best = some c ∨ c ∈ ds by
    rcases H _ none h with h | h
    · cases h
    · exact (List.mem_filter.1 h).1
  intro ds
  induction ds with
  | nil => exact fun _ h => .inl h
  | cons d ds ih =>
    intro best h
    rcases ih _ h with h | h
    · dsimp only at h
      split at h
      · cases h; simp
      · split at h <;> cases h <;> simp
    · simp [h]

/-- A substitution fills its slots from its candidates (R140). -/
theorem StringRequest.mem_substitutes {q : StringRequest} : ∀ {slots : List Slot} {i : Nat} {vs : List SlotValues}
    {cs : List Candidate} {fills : List (Nat × Candidate)}, q.substitutes i slots vs cs = some fills → ∀ f ∈ fills, f.2 ∈ cs
  | [], _, _, _, _, h => by
    simp only [StringRequest.substitutes, Option.some.injEq] at h
    subst h; simp
  | x :: slots, i, vs, cs, fills, h => by
    have skip : q.substitutes (i + 1) slots vs cs = some fills → ∀ f ∈ fills, f.2 ∈ cs := mem_substitutes
    cases x with
    | reserved => exact skip (by simpa [StringRequest.substitutes] using h)
    | picked => exact skip (by simpa [StringRequest.substitutes] using h)
    | vacant =>
      unfold StringRequest.substitutes at h
      split at h
      · cases h
      · next c hc =>
        split at h
        · cases h
        · next rest hrest =>
          cases h
          intro f hf
          rcases List.mem_cons.1 hf with rfl | hf
          · exact StringRequest.mem_chooseSubstitute hc
          · exact (List.mem_filter.1 (mem_substitutes hrest f hf)).1

/-- The records of a chosen window stand on the shelf. -/
theorem State.search_onShelf {s : State} {q : StringRequest} {w : List Candidate} (h : q.search (s.eligible q) = some w) :
    ∀ c ∈ w, s.onShelf c.record := fun c hc => State.eligible_onShelf (StringRequest.mem_search h c hc)

/-- The records of a substitution stand on the shelf. -/
theorem State.substitutes_onShelf {s : State} {x : StringEntry} {fills : List (Nat × Candidate)}
    (h : s.findSubstitutes x = some fills) : ∀ f ∈ fills, s.onShelf f.2.record :=
  fun f hf => State.eligible_onShelf (StringRequest.mem_substitutes h f hf)

/-- A record stays on the shelf while another, or itself, is reserved (R125). -/
theorem State.reserveRecord_onShelf {s : State} {r : RecordNo} (h : s.onShelf r) (k : StringNo) (i : Nat) (t : RecordNo) :
    (s.reserveRecord k i t).onShelf r := by
  intro y hy
  unfold State.reserveRecord State.updateRecord at hy
  split at hy
  · rw [State.setRecord_record] at hy
    split at hy
    · next e => subst e; cases hy; rfl
    · exact h y hy
  · exact h y hy

/-- Whether a reserved slot is released or a record's grade acts, its place on the shelf stands (R82, R83). -/
theorem RecordState.seat_released (x : RecordState) (r : RecordNo) : x.released.seat r = x.seat r := by cases x <;> rfl

theorem RecordState.seat_gradeable {x : RecordState} (h : x.gradeable = true) (r : RecordNo) : x.seat r = .held r := by
  cases x <;> first | rfl | simp [RecordState.gradeable] at h

end Sys2Proof.Machine
end

