-- ==== Sys2Proof/Laws/Stable.lean ====
section
/-! SUPPORT. What the blocks' operations can do, said once: each is made of the updates that `State.Stable` lists, so a property
that those updates keep is kept by every operation of the bays, the load bus, the pool, the scanner and the strings. -/

namespace Sys2Proof.Machine

/-- How an operation of the load bus may change the start list (R50): not at all, by a start within the limit, or by the oldest
start leaving. -/
def Load.startsFrom (old new : List Moment) : Prop :=
  new = old ∨ (old.length < Config.startLimit ∧ ∃ m, new = old ++ [m]) ∨ new = old.tail

/-- How an operation of the load bus may change the granted sum (R49): to no more than the budget, or than it was. -/
def State.sumFrom (s : State) (x : Load) : Prop := x.grantedSum ≤ max s.load.grantedSum s.settings.busBudget

/-- The granted sum after one bay's granted current is set. -/
theorem sum_set (v : Vector Nat 16) (b : Fin 16) (x : Nat) : (v.set b x).toList.sum + v[b] = v.toList.sum + x := by
  have : ∀ (l : List Nat) (i : Nat) (h : i < l.length), (l.set i x).sum + l[i] = l.sum + x := by
    intro l
    induction l with
    | nil => intro i h; simp at h
    | cons a l ih =>
      intro i h
      cases i with
      | zero => simp; omega
      | succ i => simp at h ⊢; have := ih i h; omega
  have h2 := this v.toList b.val (by simp)
  simp only [Vector.toList_set, Fin.getElem_fin]; exact h2

/-- A lower granted current leaves the granted sum no higher. -/
theorem State.sumFrom_lower {s : State} {x : Load} {b : BayNo} {n : Nat} (hn : n ≤ s.load.granted[b])
    (hx : x.granted = s.load.granted.set b n) : s.sumFrom x := by
  have := sum_set s.load.granted b n
  unfold State.sumFrom Load.grantedSum
  rw [hx]; omega

/-- An entry that fits takes the granted sum to no more than the budget (R53). -/
theorem State.sumFrom_fits {s : State} {x : Load} {e : GrantEntry} (hf : s.fits e = true)
    (hx : x.granted = s.load.granted.set e.bay e.current) : s.sumFrom x := by
  have := sum_set s.load.granted e.bay e.current
  simp only [State.fits, Bool.and_eq_true, decide_eq_true_eq] at hf
  have hs := hf.1
  unfold Load.increase at hs
  unfold State.sumFrom
  unfold Load.grantedSum at hs ⊢
  rw [hx]
  split at hs <;> omega

/-- A property of states that the updates made by the blocks' operations keep. -/
structure State.Stable (P : State → Prop) : Prop where
  bays : ∀ {s : State}, P s → ∀ x, P (s.setBays x)
  arbiter : ∀ {s : State}, P s → ∀ x, P (s.setArbiter x)
  holdQueue : ∀ {s : State}, P s → ∀ x, P (s.setHoldQueue x)
  strings : ∀ {s : State}, P s → ∀ x, P (s.setStrings x)
  load : ∀ {s : State}, P s → ∀ {x : Load}, Load.startsFrom s.load.starts x.starts → s.sumFrom x → P (s.setLoad x)
  scanner : ∀ {s : State}, P s → ∀ {x : Scanner}, x.mode = s.scanner.mode → P (s.setScanner x)
  raise : ∀ {s : State}, P s → ∀ w, P (s.raise w)
  relight : ∀ {s : State}, P s → P ((s.setScanner { s.scanner with mode := .active }).setLamps { s.lamps with dark := false })
  record : ∀ {s : State} {r : RecordNo} {x y : Record}, P s → s.record r = some x → y.position = x.position →
    y.state.seat r = x.state.seat r → P (s.setRecord r (some y))
  position : ∀ {s : State} {p : PositionNo} {x : PositionState}, P s → x.bound = (s.position p).state.bound →
    (∀ r, x.bound = some r → s.record r = none) → P (s.setPositionState p x)
  marks : ∀ {s : State} {p : PositionNo} {x : Position}, P s → x.state = (s.position p).state → P (s.setPosition p x)
  bind : ∀ {s : State} {r : RecordNo} {p : PositionNo} {x : Record} {st : PositionState}, P s → s.record r = none →
    (s.position p).state.bound = none → x.position = p → st = x.state.seat r →
    P ((s.setRecord r (some x)).setPositionState p st)
  rebind : ∀ {s : State} {r : RecordNo} {p : PositionNo} {x y : Record} {st : PositionState}, P s → s.record r = some x →
    (s.position p).state.bound = some r → y.position = p ∨ y.position = x.position → st = y.state.seat r →
    P ((s.setRecord r (some y)).setPositionState p st)
  drop : ∀ {s : State} {r : RecordNo} {p : PositionNo} {st : PositionState}, P s →
    ((s.position p).state.bound = some r ∨ ∃ x, s.record r = some x ∧ x.position = p) → st.bound = none →
    P ((s.setRecord r none).setPositionState p st)
  move : ∀ {s : State} {r : RecordNo} {p : PositionNo} {x y : Record}, P s → s.record r = some x →
    (s.position p).state.bound = none → y.position = p → y.state.seat r = .held r →
    P (((s.setRecord r (some y)).setPositionState p (.held r)).setPositionState x.position .free)

/-! ## What an event leaves as it is -/

/-- An event raised changes the event block alone (R162). -/
theorem State.raise_eq (s : State) (w : Happening) :
    s.raise w = s.setEvents (s.events.after s.settings.attention s.now s.seconds w) := by
  unfold State.raise Events.after
  cases s.events.enables.allows w.cls <;> simp only [if_true, if_false, Bool.false_eq_true, reduceCtorEq]
  · rfl
  · split <;> rfl

@[simp] theorem State.raise_bays (s : State) (w : Happening) : (s.raise w).bays = s.bays := by rw [State.raise_eq]; rfl
@[simp] theorem State.raise_load (s : State) (w : Happening) : (s.raise w).load = s.load := by rw [State.raise_eq]; rfl
@[simp] theorem State.raise_link (s : State) (w : Happening) : (s.raise w).link = s.link := by rw [State.raise_eq]; rfl
@[simp] theorem State.raise_clock (s : State) (w : Happening) : (s.raise w).clock = s.clock := by rw [State.raise_eq]; rfl
@[simp] theorem State.raise_settings (s : State) (w : Happening) : (s.raise w).settings = s.settings := by
  rw [State.raise_eq]; rfl
@[simp] theorem State.raise_scanner (s : State) (w : Happening) : (s.raise w).scanner = s.scanner := by
  rw [State.raise_eq]; rfl
@[simp] theorem State.raise_lamps (s : State) (w : Happening) : (s.raise w).lamps = s.lamps := by rw [State.raise_eq]; rfl
@[simp] theorem State.raise_arbiter (s : State) (w : Happening) : (s.raise w).arbiter = s.arbiter := by
  rw [State.raise_eq]; rfl
@[simp] theorem State.raise_holdQueue (s : State) (w : Happening) : (s.raise w).holdQueue = s.holdQueue := by
  rw [State.raise_eq]; rfl
@[simp] theorem State.raise_bay (s : State) (w : Happening) (b : BayNo) : (s.raise w).bay b = s.bay b := by
  rw [State.raise_eq]; rfl
@[simp] theorem State.raise_record (s : State) (w : Happening) (r : RecordNo) : (s.raise w).record r = s.record r := by
  rw [State.raise_eq]; rfl
@[simp] theorem State.raise_position (s : State) (w : Happening) (p : PositionNo) : (s.raise w).position p = s.position p := by
  rw [State.raise_eq]; rfl
@[simp] theorem State.raise_string (s : State) (w : Happening) (k : StringNo) : (s.raise w).string k = s.string k := by
  rw [State.raise_eq]; rfl
@[simp] theorem State.raise_now (s : State) (w : Happening) : (s.raise w).now = s.now := by rw [State.raise_eq]; rfl
@[simp] theorem State.raise_seconds (s : State) (w : Happening) : (s.raise w).seconds = s.seconds := by
  rw [State.raise_eq]; rfl

/-- An event and a position's change do not meet. -/
theorem State.raise_setPositionState (s : State) (w : Happening) (p : PositionNo) (x : PositionState) :
    (s.raise w).setPositionState p x = (s.setPositionState p x).raise w := by
  rw [State.raise_eq, State.raise_eq]; rfl

@[simp] theorem State.setPositionState_state (s : State) (p : PositionNo) (x : PositionState) :
    ((s.setPositionState p x).position p).state = x := by simp [State.setPositionState]

@[simp] theorem State.setPositionState_record (s : State) (p : PositionNo) (x : PositionState) (r : RecordNo) :
    (s.setPositionState p x).record r = s.record r := rfl

/-- Picks and vacated slots touch no record and no position. -/
@[simp] theorem State.vacateSlot_record (s : State) (k : StringNo) (i : Nat) (r : RecordNo) :
    (s.vacateSlot k i).record r = s.record r := by unfold State.vacateSlot; split <;> rfl

@[simp] theorem State.pickSlot_record (s : State) (k : StringNo) (i : Nat) (p : PositionNo) (r : RecordNo) :
    (s.pickSlot k i p).record r = s.record r := by unfold State.pickSlot; dsimp only; (repeat' split) <;> simp

@[simp] theorem State.pickSlot_position (s : State) (k : StringNo) (i : Nat) (p q : PositionNo) :
    (s.pickSlot k i p).position q = s.position q := by unfold State.pickSlot; dsimp only; (repeat' split) <;> simp

/-- A found place is free (R85). -/
theorem State.placeFor_free {s : State} {r : RecordNo} {p : PositionNo} (h : s.placeFor = some (r, p)) :
    s.record r = none ∧ (s.position p).state = .free := by
  unfold State.placeFor at h
  split at h
  · next p' r' hp hr =>
    cases h
    exact ⟨by simpa using List.find?_some hr, by simpa using List.find?_some hp⟩
  · cases h

@[simp] theorem State.setHoldQueue_placeFor (s : State) (x : List BayNo) : (s.setHoldQueue x).placeFor = s.placeFor := by
  unfold State.placeFor State.freePosition State.freeRecord
  simp only [State.setHoldQueue_position, State.setHoldQueue_record]

/-! ## The blocks' operations -/

namespace State.Stable

variable {P : State → Prop} (c : State.Stable P) {s : State}

include c

theorem setBay (h : P s) (b : BayNo) (x : Bay) : P (s.setBay b x) := c.bays h _
theorem setBayState (h : P s) (b : BayNo) (x : BayState) : P (s.setBayState b x) := c.bays h _
theorem setProgram (h : P s) (b : BayNo) (x : Program) : P (s.setProgram b x) := c.bays h _
theorem setString (h : P s) (k : StringNo) (x : Option StringEntry) : P (s.setString k x) := c.strings h _

theorem setLoadKept (h : P s) {x : Load} (hx : x.starts = s.load.starts) (hg : x.granted = s.load.granted) : P (s.setLoad x) :=
  c.load h (.inl hx) (by unfold State.sumFrom Load.grantedSum; rw [hg]; exact Nat.le_max_left ..)

theorem setLoadLower (h : P s) {x : Load} {b : BayNo} {n : Nat} (hx : x.starts = s.load.starts)
    (hn : n ≤ s.load.granted[b]) (hg : x.granted = s.load.granted.set b n) : P (s.setLoad x) :=
  c.load h (.inl hx) (State.sumFrom_lower hn hg)

theorem raiseAll (ws : List Happening) : ∀ {s : State}, P s → P (s.raiseAll ws) := by
  induction ws with
  | nil => exact fun h => h
  | cons w ws ih => exact fun h => ih (c.raise h w)

theorem updateRecord (h : P s) (r : RecordNo) (f : Record → Record)
    (hf : ∀ x, s.record r = some x → (f x).position = x.position ∧ (f x).state.seat r = x.state.seat r) :
    P (s.updateRecord r f) := by
  unfold State.updateRecord; split
  · next hr => exact c.record h hr (hf _ hr).1 (hf _ hr).2
  · exact h

/-! ### Load bus -/

theorem loadOn (h : P s) (b : BayNo) : P (s.loadOn b) := by
  unfold State.loadOn; repeat' split
  all_goals first | with_reducible exact h | exact c.setProgram h ..

theorem grantEntry (h : P s) {e : GrantEntry} (hf : s.fits e = true) : P (s.grantEntry e) := by
  unfold State.grantEntry
  split
  · exact c.raise (c.load h (.inl (by rfl)) (State.sumFrom_fits hf (by rfl))) _
  · next hk =>
    refine c.loadOn (c.load h (.inr (.inl ⟨?_, _, by rfl⟩)) (State.sumFrom_fits hf (by rfl))) _
    have : e.isRestore = false := by
      unfold GrantEntry.isRestore; split
      · next h' => exact absurd h' (hk _)
      · rfl
    simp only [State.fits, this, Bool.false_or, Bool.and_eq_true, decide_eq_true_eq] at hf
    exact hf.2

theorem examineUpTo (n : Nat) : ∀ {s : State}, P s → P (s.examineUpTo n) := by
  induction n with
  | zero => exact fun h => h
  | succ n ih =>
    intro s h
    unfold State.examineUpTo
    split
    · exact h
    · next e rest hq =>
      split
      · next hf => exact ih (c.grantEntry (c.setLoadKept h (by rfl) (by rfl)) hf)
      · exact h

theorem examine (h : P s) : P s.examine := c.examineUpTo _ h

theorem joinGrantQueue (h : P s) (e : GrantEntry) : P (s.joinGrantQueue e) := by
  unfold State.joinGrantQueue; split
  · exact c.examine (c.setLoadKept h (by rfl) (by rfl))
  · exact c.setLoadKept h (by rfl) (by rfl)

theorem leaveGrantQueue (h : P s) (b : BayNo) : P (s.leaveGrantQueue b) := by
  have h' := c.setLoadKept h (x := { s.load with queue := s.load.queue.filter fun e => e.bay != b }) rfl rfl
  unfold State.leaveGrantQueue; dsimp only; repeat' split
  all_goals first | with_reducible exact h' | exact c.examine h'

theorem returnGrant (h : P s) (b : BayNo) : P (s.returnGrant b) := by
  unfold State.returnGrant; split
  · exact h
  · exact c.examine (c.setLoadLower h (by rfl) (Nat.zero_le _) (by rfl))

theorem derateBay (h : P s) (b : BayNo) (n : Nat) (t : Int) : P (s.derateBay b n t) :=
  c.examine (c.raise (c.setLoadLower h (by rfl) (Nat.min_le_left ..) (by rfl)) _)

theorem drainThermal (h : P s) (b : BayNo) (n : Nat) (t : Int) : P (s.drainThermal b n t) := by
  unfold State.drainThermal; repeat' split
  all_goals first
    | with_reducible exact h | with_reducible exact c.derateBay h .. | with_reducible exact c.leaveGrantQueue h _
    | exact c.joinGrantQueue h _

theorem startAged (h : P s) : P s.startAged := c.examine (c.load h (.inr (.inr (by rfl))) (Nat.le_max_left ..))

/-! ### Converter -/

theorem askBay (h : P s) (b : BayNo) : P (s.askBay b) := c.arbiter h _
theorem askRack (h : P s) (p : PositionNo) : P (s.askRack p) := c.arbiter h _
theorem askForProgram (h : P s) (b : BayNo) (p : Program) : P (s.askForProgram b p) := c.askBay (c.setProgram h ..) _

/-! ### Pairing -/

theorem reserveRecord (h : P s) (k : StringNo) (i : Nat) {r : RecordNo} (hr : s.onShelf r) : P (s.reserveRecord k i r) :=
  c.updateRecord h r _ fun x hx => ⟨rfl, (hr x hx).symm⟩

theorem reserveAll (k : StringNo) (cs : List Candidate) : ∀ (i : Nat) {s : State}, P s → (∀ x ∈ cs, s.onShelf x.record) →
    P (s.reserveAll k i cs) := by
  induction cs with
  | nil => exact fun _ _ h _ => h
  | cons x xs ih =>
    exact fun i _ h hs => ih (i + 1) (c.reserveRecord h _ _ (hs x List.mem_cons_self))
      fun y hy => State.reserveRecord_onShelf (hs y (List.mem_cons_of_mem _ hy)) _ _ _

theorem reserveWindow (h : P s) (k : StringNo) (x : StringEntry) {w : List Candidate} (hw : ∀ y ∈ w, s.onShelf y.record) :
    P (s.reserveWindow k x w) := c.raise (c.reserveAll k w 0 (c.setString h ..) hw) _

theorem searchString (h : P s) (k : StringNo) (x : StringEntry) : P (s.searchString k x) := by
  unfold State.searchString; split
  · next hw => exact c.reserveWindow h _ _ (State.search_onShelf hw)
  · exact h

theorem commitSubstitutes (k : StringNo) (fs : List (Nat × Candidate)) :
    ∀ {s : State}, P s → (∀ f ∈ fs, s.onShelf f.2.record) → P (s.commitSubstitutes k fs) := by
  induction fs with
  | nil => exact fun h _ => h
  | cons f fs ih =>
    intro s h hs
    unfold State.commitSubstitutes
    dsimp only
    split
    · exact ih (c.reserveRecord (c.setString h ..) _ _ (hs f List.mem_cons_self))
        fun y hy => State.reserveRecord_onShelf (s := s.setString _ _) (hs y (List.mem_cons_of_mem _ hy)) _ _ _
    · exact ih (c.reserveRecord h _ _ (hs f List.mem_cons_self))
        fun y hy => State.reserveRecord_onShelf (hs y (List.mem_cons_of_mem _ hy)) _ _ _

theorem fillSlots (h : P s) (k : StringNo) (x : StringEntry) {fs : List (Nat × Candidate)}
    (hs : ∀ f ∈ fs, s.onShelf f.2.record) : P (s.fillSlots k x fs) :=
  c.raiseAll _ (c.commitSubstitutes k fs (c.setString h ..) hs)

theorem repairString (h : P s) (k : StringNo) : P (s.repairString k) := by
  unfold State.repairString
  split
  · split
    · next hf => exact c.fillSlots h _ _ (State.substitutes_onShelf hf)
    · exact c.raise (c.setString h ..) _
  · exact h

theorem retryString (h : P s) (k : StringNo) : P (s.retryString k) := by
  unfold State.retryString
  split
  · split
    · exact c.searchString h ..
    · split
      · next hf => exact c.fillSlots h _ _ (State.substitutes_onShelf hf)
      · exact h
    · exact h
    · exact h
  · exact h

theorem retryRound (h : P s) : P s.retryRound :=
  List.foldlRecOn (motive := P) _ _ h (fun _ h k _ => c.retryString h k)

theorem candidateNotice (h : P s) : P s.candidateNotice := c.retryRound h

theorem pickSlot (h : P s) (k : StringNo) (i : Nat) (p : PositionNo) : P (s.pickSlot k i p) := by
  unfold State.pickSlot; dsimp only; repeat' split
  all_goals first
    | with_reducible exact h | exact c.raise (c.raise (c.setString h ..) _) _ | exact c.raise (c.setString h ..) _

theorem vacateSlot (h : P s) (k : StringNo) (i : Nat) : P (s.vacateSlot k i) := by
  unfold State.vacateSlot; split
  · exact c.setString h ..
  · exact h

theorem releaseSlots (xs : List Slot) : ∀ {s : State}, P s → P (s.releaseSlots xs) := by
  induction xs with
  | nil => exact fun h => h
  | cons x xs ih =>
    intro s h
    unfold State.releaseSlots; split
    · next he => cases he
    · next he => cases he; exact ih (c.updateRecord h _ _ fun y _ => ⟨rfl, RecordState.seat_released ..⟩)
    · next he => cases he; exact ih h

theorem cancelString (h : P s) (k : StringNo) (x : StringEntry) : P (s.cancelString k x) :=
  c.retryRound (c.setString (c.releaseSlots _ h) ..)

theorem buildString (h : P s) (k : StringNo) (q : StringRequest) : P (s.buildString k q) :=
  c.searchString (c.setString h ..) ..

/-! ### Pool -/

theorem openClamp (h : P s) (b : BayNo) : P (s.openClamp b) := c.setBayState h ..

theorem afterResult (h : P s) (b : BayNo) (x : Bool) : P (s.afterResult b x) := by
  unfold State.afterResult; split
  · exact c.openClamp h _
  · exact c.setBayState h ..

theorem bindRecord (h : P s) {r : RecordNo} {p : PositionNo} (hp : s.placeFor = some (r, p)) {x : Record}
    (hx : x.position = p) (hu : x.state = .unshelved) : P (s.bindRecord r p x) :=
  c.bind h (State.placeFor_free hp).1 (by rw [(State.placeFor_free hp).2]; rfl) hx (by rw [hu]; rfl)

theorem leaveHold (h : P s) (b : BayNo) (q : RunRequest) (g : GradedResult) (r : RecordNo) (p : PositionNo) :
    P (s.leaveHold b q g r p) := c.afterResult (c.raise (c.setBay h ..) _) ..

theorem assignHeldUpTo (n : Nat) : ∀ {s : State}, P s → P (s.assignHeldUpTo n) := by
  induction n with
  | zero => exact fun h => h
  | succ n ih =>
    intro s h
    unfold State.assignHeldUpTo
    split
    · exact h
    · split
      · next hp => exact ih (c.leaveHold (c.bindRecord (c.holdQueue h _) (by rw [State.setHoldQueue_placeFor]; exact hp) (by rfl) (by rfl)) ..)
      · exact h

theorem assignHeld (h : P s) : P s.assignHeld := c.assignHeldUpTo _ h

theorem arrival (h : P s) (p : PositionNo) : P (s.arrival p) := by
  unfold State.arrival
  split
  · next hp => exact c.raise (c.position h (by rw [hp]; rfl) (by simp [PositionState.bound])) _
  · next r hp =>
    refine c.candidateNotice (c.raise ?_ _)
    unfold State.updateRecord
    split
    · next hr => exact c.rebind h hr (by rw [hp]; rfl) (.inl rfl) (by rfl)
    · next hr => exact c.position h (by rw [hp]; rfl) (by rintro _ ⟨⟩; exact hr)
  · next r hp =>
    refine c.candidateNotice (c.raise ?_ _)
    unfold State.updateRecord
    split
    · next hr => exact c.rebind h hr (by rw [hp]; rfl) (.inr rfl) (by rfl)
    · next hr => exact c.position h (by rw [hp]; rfl) (by rintro _ ⟨⟩; exact hr)
  all_goals exact h

theorem removeHeld (h : P s) {r : RecordNo} {x : Record} {p : PositionNo} (hr : s.record r = some x)
    (hp : (s.position p).state = .held r) : P (s.removeHeld r x p) := by
  unfold State.removeHeld State.deleteRecord
  split
  · exact c.assignHeld (c.drop (c.pickSlot h ..) (.inl (by rw [State.pickSlot_position, hp]; rfl)) rfl)
  · exact c.raise (c.rebind h hr (by rw [hp]; rfl) (.inr (by rfl)) (by rfl)) _
  · exact c.assignHeld (c.raise (c.drop h (.inl (by rw [hp]; rfl)) rfl) _)
  all_goals exact h

theorem removal (h : P s) (p : PositionNo) : P (s.removal p) := by
  unfold State.removal
  split
  · next hp =>
    split
    · next hr => exact c.removeHeld h hr hp
    · exact h
  · next hp => exact c.assignHeld (c.raise (c.position h (by rw [hp]; rfl) (by simp [PositionState.bound])) _)
  all_goals exact h

theorem shelfReject (h : P s) {r : RecordNo} {x y : Record} (d : Nat) (hr : s.record r = some y)
    (hp : x.position = y.position) (hs : y.state.seat r = .held r) : P (s.shelfReject r x d) := by
  unfold State.shelfReject; dsimp only; split
  · exact c.repairString (c.raise (c.record (c.vacateSlot h _ _) (by rw [State.vacateSlot_record]; exact hr) (by exact hp)
      (by rw [hs]; rfl)) _) _
  · exact c.raise (c.record h hr (by exact hp) (by rw [hs]; rfl)) _

theorem recheckReservation (h : P s) {r : RecordNo} {x : Record} (hr : s.record r = some x) : P (s.recheckReservation r x) := by
  unfold State.recheckReservation
  split
  · next hx =>
    split
    · split
      · exact h
      · exact c.candidateNotice (c.repairString (c.vacateSlot (c.record h hr (by rfl) (by rw [hx]; rfl)) ..) _)
    · exact h
  · exact h

theorem downgradeRecord (h : P s) {r : RecordNo} {x : Record} (d : Nat) (hr : s.record r = some x) :
    P (s.downgradeRecord r x d) :=
  c.recheckReservation (c.raise (c.record h hr (by rfl) (by rfl)) _) (by rw [State.raise_record, State.setRecord_record_self])

theorem gradeAction (h : P s) {r : RecordNo} {x : Record} (d : Nat) (hr : s.record r = some x) : P (s.gradeAction r x d) := by
  unfold State.gradeAction; dsimp only
  split
  · exact h
  next hg =>
  have hs : x.state.seat r = .held r := RecordState.seat_gradeable (by simpa using hg) r
  split
  · exact c.shelfReject h d hr (by rfl) hs
  split
  · split
    · exact c.downgradeRecord h d hr
    · exact c.downgradeRecord h d hr
    · exact c.shelfReject (c.record h hr (by rfl) (by rfl)) d (State.setRecord_record_self ..) (by rfl) (by exact hs)
    · exact h
  · exact h

theorem updateDrift (h : P s) {r : RecordNo} {x : Record} (hr : s.record r = some x) : P (s.updateDrift r x) := by
  unfold State.updateDrift; dsimp only
  split
  · exact c.record h hr (by rfl) (by rfl)
  · split
    · exact h
    · exact c.gradeAction (c.record h hr (by rfl) (by rfl)) _ (State.setRecord_record_self ..)

theorem freshen (h : P s) (r : RecordNo) : P (s.freshen r) := by
  have h' := c.raise (c.updateRecord h r (fun x => { x with stale := false }) fun _ _ => ⟨rfl, rfl⟩) (.recordFresh r)
  unfold State.freshen; dsimp only; split
  · split
    · exact c.candidateNotice h'
    · exact h'
  · exact h'

theorem shelfSample (h : P s) (p : PositionNo) (v : Nat) : P (s.shelfSample p v) := by
  unfold State.shelfSample; dsimp only
  split
  · split
    · next r _ x hr =>
      have h' := c.updateDrift
        (c.record h hr (y := { x with restVoltage := v, restTime := s.seconds, sampled := true }) (by rfl) (by rfl))
        (State.setRecord_record_self ..)
      split
      · exact c.freshen h' _
      · exact h'
    · exact h
  · exact h

theorem markStaleAt (h : P s) (p : PositionNo) : P (s.markStaleAt p) := by
  unfold State.markStaleAt
  split
  · split
    · next hr =>
      split
      · exact c.raise (c.record h hr (by rfl) (by rfl)) _
      · exact h
    · exact h
  · exact h

theorem markStale (h : P s) (row : RowNo) : P (s.markStale row) :=
  List.foldlRecOn (motive := P) _ _ h (fun _ h _ _ => c.markStaleAt h _)

/-- R100: a deleted record takes its binding with it. -/
theorem deleteFrom (h : P s) {r : RecordNo} {x : Record} (hr : s.record r = some x) : P (s.deleteFrom r x) := by
  unfold State.deleteFrom State.deleteRecord
  split
  · exact c.drop h (.inr ⟨x, hr, rfl⟩) rfl
  · exact c.drop h (.inr ⟨x, hr, rfl⟩) rfl
  all_goals exact c.assignHeld (c.drop h (.inr ⟨x, hr, rfl⟩) rfl)

/-- R101: a placed record moves to a position that was bound to none. -/
theorem place (h : P s) {r : RecordNo} {x : Record} {p : PositionNo} (hr : s.record r = some x)
    (hp : (s.position p).state = .unknown) : P (s.place r x p) := by
  unfold State.place State.shelve State.updateRecord
  rw [hr]; dsimp only
  rw [State.raise_setPositionState]
  exact c.assignHeld (c.candidateNotice (c.raise (c.move h hr (by rw [hp]; rfl) (by rfl) (by rfl)) _))

/-! ### Scanner and shelf watch -/

theorem dueTest (h : P s) : P s.dueTest := by
  unfold State.dueTest; split
  · exact c.askRack (c.scanner h (by rfl)) _
  · exact h

theorem selectRow (h : P s) (row : RowNo) : P (s.selectRow row) := c.dueTest (c.scanner h (by rfl))

theorem endPass (h : P s) : P s.endPass := by
  unfold State.endPass; split
  · exact c.selectRow h _
  · split
    · exact c.scanner h (by rfl)
    · exact c.selectRow h _

theorem endVisit (h : P s) : P s.endVisit := by
  unfold State.endVisit; dsimp only; split
  · exact c.selectRow (c.markStale h _) _
  · exact c.endPass (c.markStale h _)

theorem deliverRack (h : P s) (p : PositionNo) (v : Nat) : P (s.deliverRack p v) := by
  unfold State.deliverRack; dsimp only; split
  · exact c.dueTest (c.shelfSample h ..)
  · exact c.endVisit (c.shelfSample h ..)
  · exact c.shelfSample h ..

theorem leaveWatch (h : P s) : P s.leaveWatch := by
  unfold State.leaveWatch; dsimp only; split
  · exact c.selectRow (c.relight h) _
  · exact c.relight h

theorem wake (h : P s) (x : WokenCause) : P (s.wake x) := by
  unfold State.wake; split
  · exact c.leaveWatch (c.raise h _)
  · exact h

theorem confirmedChange (h : P s) (p : PositionNo) (x : Bool) : P (s.confirmedChange p x) := by
  unfold State.confirmedChange; split
  · exact c.wake (c.arrival h _) _
  · exact c.wake (c.removal h _) _

theorem readContact (h : P s) (p : PositionNo) (x : Bool) : P (s.readContact p x) := by
  unfold State.readContact; dsimp only
  split
  · exact c.marks h (by rfl)
  split
  · exact c.confirmedChange (c.marks h (by rfl)) ..
  · exact c.marks h (by rfl)

theorem readRow (h : P s) (row : RowNo) (x : BitVec 24) : P (s.readRow row x) :=
  List.foldlRecOn (motive := P) _ _ h (fun _ h _ _ => c.readContact h ..)

theorem dwellOver (h : P s) (x : BitVec 24) : P (s.dwellOver x) := by
  have h' := c.readRow (c.scanner h (x := { s.scanner with dwellTimer := none }) rfl) s.scanner.row x
  unfold State.dwellOver; dsimp only; split
  · exact c.scanner h' (by rfl)
  · exact c.endVisit h'

/-! ### Bays and programs -/

theorem enterFault (h : P s) (b : BayNo) (x : FaultCause) : P (s.enterFault b x) :=
  c.raiseAll _ (c.raise (c.setBay (c.holdQueue (c.leaveGrantQueue (c.returnGrant h b) b) _) ..) _)

theorem faultBay (h : P s) (b : BayNo) (x : FaultCause) : P (s.faultBay b x) := by
  unfold State.faultBay; split
  · exact h
  · exact c.enterFault h ..

theorem endProgram (h : P s) (b : BayNo) (p : Program) (o : TestOutcome) : P (s.endProgram b p o) :=
  c.raise (c.setBay (c.leaveGrantQueue (c.returnGrant h b) b) ..) _

theorem rejectResult (h : P s) (b : BayNo) (p : Program) (o : TestOutcome) (f : Flags) : P (s.rejectResult b p o f) :=
  c.afterResult (c.raise (c.setBay h ..) _) ..

theorem passResult (h : P s) (b : BayNo) (p : Program) (g : GradedResult) : P (s.passResult b p g) := by
  unfold State.passResult; dsimp only; split
  · next hp => exact c.afterResult (c.raise (c.setBay (c.bindRecord h hp (by rfl) (by rfl)) ..) _) ..
  · exact c.raise (c.holdQueue (c.setBay h ..) _) _

theorem verdict (h : P s) (b : BayNo) (p : Program) (d : Option SettleReading) : P (s.verdict b p d) := by
  unfold State.verdict; dsimp only; split
  · exact c.rejectResult h ..
  · exact c.passResult h ..

theorem discardHold (h : P s) (b : BayNo) (g : GradedResult) : P (s.discardHold b g) :=
  c.raise (c.setBay (c.holdQueue h _) ..) _

theorem seat (h : P s) (b : BayNo) : P (s.seat b) := c.raise (c.setBayState h ..) _
theorem vacate (h : P s) (b : BayNo) : P (s.vacate b) := c.raise (c.setBay h ..) _

theorem contactConfirmed (h : P s) (b : BayNo) (k : Contact) (x : Bool) : P (s.contactConfirmed b k x) := by
  unfold State.contactConfirmed State.presenceGained State.presenceLost State.clampOpened
  split
  · split
    · exact c.wake (c.seat h _) _
    · exact c.wake h _
  · split
    · exact c.wake h _
    · exact c.wake h _
    · exact c.wake (c.vacate h _) _
    · exact c.wake (c.vacate h _) _
    all_goals exact c.wake (c.faultBay h ..) _
  · exact h
  · split
    · exact c.faultBay h ..
    · exact c.faultBay h ..
    · exact c.faultBay h ..
    all_goals exact h

theorem debounced (h : P s) (b : BayNo) (k : Contact) : P (s.debounced b k) := by
  unfold State.debounced; dsimp only; split
  · exact c.setBay h ..
  · exact c.contactConfirmed (c.setBay h ..) ..

theorem askPulse (h : P s) (b : BayNo) (p : Program) : P (s.askPulse b p) := c.joinGrantQueue (c.setProgram h ..) _

theorem restReading (h : P s) (b : BayNo) (p : Program) (x : Reading) : P (s.restReading b p x) := by
  unfold State.restReading State.beginPulse; dsimp only; split
  · exact c.rejectResult h ..
  · exact c.rejectResult h ..
  · exact c.endProgram h ..
  · split
    · exact c.askPulse h ..
    · exact c.setProgram h ..

theorem endReading (h : P s) (b : BayNo) (p : Program) (x : Reading) : P (s.endReading b p x) := by
  have h' := c.returnGrant h b
  unfold State.endReading State.beginRecover; dsimp only; repeat' split
  all_goals first
    | with_reducible exact c.faultBay h' .. | with_reducible exact c.endProgram h' .. | exact c.setProgram h' ..

theorem recovered (h : P s) (b : BayNo) (p : Program) : P (s.recovered b p) := by
  unfold State.recovered State.beginDrain; split
  · exact c.joinGrantQueue (c.setProgram h ..) _
  · exact c.verdict h ..

theorem endDrain (h : P s) (b : BayNo) (p : Program) : P (s.endDrain b p) := c.returnGrant (c.setProgram h ..) _

theorem useReading (h : P s) (b : BayNo) (p : Program) (x : Reading) : P (s.useReading b p x) := by
  unfold State.useReading; split
  · exact c.restReading h ..
  · unfold State.coolReading; split
    · exact c.askPulse h ..
    · exact h
  · unfold State.monitorReading; split
    · exact c.faultBay h ..
    · exact c.setProgram h ..
  · unfold State.lastMonitorReading; split
    · exact c.faultBay h ..
    · exact c.askForProgram h ..
  · unfold State.drainReading; dsimp only; repeat' split
    all_goals first
      | with_reducible exact c.faultBay (c.setProgram h ..) .. | with_reducible exact c.endDrain (c.setProgram h ..) ..
      | exact c.setProgram h ..
  · unfold State.settleReading; dsimp only; repeat' split
    all_goals first | with_reducible exact c.verdict h .. | exact c.setProgram h ..
  all_goals exact h

theorem deliverBay (h : P s) (b : BayNo) (x : Reading) : P (s.deliverBay b x) := by
  unfold State.deliverBay State.currentReading; dsimp only
  split
  · split
    · split
      · exact c.endReading (c.setProgram h ..) ..
      · split
        · exact c.faultBay (c.setProgram h ..) ..
        · refine c.useReading ?_ ..
          unfold State.thermal; split
          · exact c.drainThermal (c.setProgram h ..) ..
          · exact c.setProgram h ..
    · exact h
  · exact h

theorem completeConversion (h : P s) (r : Requester) (x : Reading) : P (s.completeConversion r x) := by
  unfold State.completeConversion State.deliver; dsimp only
  refine c.arbiter ?_ _
  split
  · exact c.deliverBay (c.arbiter h _) ..
  · exact c.deliverRack (c.arbiter h _) ..
  · exact c.arbiter h _

theorem lineStop (h : P s) : P s.lineStop := by
  have h' : P s.stopBays := c.holdQueue (c.arbiter (c.load (c.bays h _) (.inl (by rfl)) (by exact Nat.zero_le _)) _) _
  unfold State.lineStop; dsimp only; split
  · exact c.raiseAll _ (c.raise (c.leaveWatch h') _)
  · exact c.raiseAll _ (c.raise h' _)

end State.Stable

end Sys2Proof.Machine
end

