-- ==== Sys2Proof/Laws/Kept.lean ====
section
/-! SUPPORT. What the requests, the link, time and the resets can do, said once: a property kept by the updates that `State.Kept`
lists is kept by every command. -/

namespace Sys2Proof.Machine

/-- A property that the updates made by the requests' owners keep. -/
structure State.Handled (P : State → Prop) : Prop extends State.Stable P where
  settings : ∀ {s : State}, P s → ∀ {x : Settings}, x.busBudget = s.settings.busBudget ∨ s.load.grantedSum ≤ x.busBudget →
    P (s.setSettings x)
  profiles : ∀ {s : State}, P s → ∀ x, P (s.setProfiles x)
  plans : ∀ {s : State}, P s → ∀ x, P (s.setPlans x)
  limits : ∀ {s : State}, P s → ∀ x, P (s.setLimits x)
  events : ∀ {s : State}, P s → ∀ {x : Events}, x.queue.length ≤ s.events.queue.length → P (s.setEvents x)
  lamps : ∀ {s : State}, P s → ∀ {x : Lamps}, x.dark = s.lamps.dark → P (s.setLamps x)
  watch : ∀ {s : State}, P s → P s.enterWatch
  hold : ∀ {s : State}, P s → ∀ x, P (s.setLink { s.link with resetHold := x })

/-- A property that every update of the part keeps. -/
structure State.Kept (P : State → Prop) : Prop extends State.Handled P where
  clock : ∀ {s : State}, P s → ∀ x, P (s.setClock x)
  resetInput : ∀ {s : State}, P s → ∀ x, P (s.setResetInput x)
  pending : ∀ {s : State}, P s → ∀ x, P (s.setPending x)
  receiver : ∀ {s : State}, P s → ∀ x, P (s.setLink { s.link with receiver := x })
  reply : ∀ {s : State}, P s → s.link.transmit.length < Config.transmitPlaces → ∀ x, P (s.reply x)
  sent : ∀ {s : State} {x : Reply} {rest : List Reply}, P s → s.link.transmit = x :: rest →
    P (s.setLink { s.link with transmit := rest })
  cleared : ∀ {s : State}, P s → P s.cleared

/-! ## The requests' owners -/

namespace State.Handled

variable {P : State → Prop} (c : State.Handled P)

include c

omit c in
theorem withFields {α : Type} (fields : Except Status α) (h : α → Handler) (hh : ∀ x s, P s → P (h x s).1) :
    ∀ s, P s → P (Machine.withFields fields h s).1 := by
  intro s hs
  unfold Machine.withFields
  split
  · exact hh _ _ hs
  · exact hs

theorem writeAttention {s : State} (h : P s) (m : AttentionMode) : P (s.writeAttention m) := by
  unfold State.writeAttention; split
  · exact h
  · exact c.events (c.settings h (.inl (by rfl))) (by exact Nat.le_refl _)

theorem takeSetting {s : State} (h : P s) (item v : Nat) (hl : s.locks item v = false) : P (s.takeSetting item v) := by
  unfold State.takeSetting; dsimp only
  split
  case h_4 => exact c.examine (c.settings h (.inr (by simpa [State.locks] using hl)))
  all_goals first | exact c.settings h (.inl (by rfl)) | exact c.writeAttention h _

theorem settingWrite (x : Nat × Nat) (s : State) (h : P s) : P (handleSettingWrite x s).1 := by
  unfold handleSettingWrite; split
  · exact h
  split
  · exact h
  · next hl => exact c.takeSetting h _ _ (by simpa using hl)

theorem eventsTake (n : Nat) (s : State) (h : P s) : P (handleEventsTake n s).1 :=
  c.events h (by simp only [List.length_drop]; omega)

theorem eventClasses (x : Byte × Byte) (s : State) (h : P s) : P (handleEventClasses x s).1 :=
  c.events h (by exact Nat.le_refl _)

theorem watchEnter (x : Unit) (s : State) (h : P s) : P (handleWatchEnter x s).1 := by
  unfold handleWatchEnter; split
  · exact c.watch h
  · exact h

theorem profileLoad (x : SlotNo × Profile) (s : State) (h : P s) : P (handleProfileLoad x s).1 := by
  unfold handleProfileLoad; split
  · exact h
  · exact c.profiles h _

omit c in
theorem profileRead (x : SlotNo) (s : State) (h : P s) : P (handleProfileRead x s).1 := by
  unfold handleProfileRead; split <;> exact h

theorem planLoad (x : SlotNo × Plan) (s : State) (h : P s) : P (handlePlanLoad x s).1 := by
  unfold handlePlanLoad; split
  · exact h
  · exact c.plans h _

omit c in
theorem planRead (x : SlotNo) (s : State) (h : P s) : P (handlePlanRead x s).1 := by
  unfold handlePlanRead; split <;> exact h

theorem gradeLimits (x : Option GradeLimits) (s : State) (h : P s) : P (handleGradeLimits x s).1 := by
  unfold handleGradeLimits; split
  · exact h
  · exact c.limits h _

theorem bayEngage (b : BayNo) (s : State) (h : P s) : P (handleBayEngage b s).1 := by
  unfold handleBayEngage; split
  · exact c.setBayState h ..
  · exact h

theorem bayRun (x : RunRequest) (s : State) (h : P s) : P (handleBayRun x s).1 := by
  unfold handleBayRun; repeat' split
  all_goals first | exact c.setBay h .. | exact h

theorem bayAbort (b : BayNo) (s : State) (h : P s) : P (handleBayAbort b s).1 := by
  unfold handleBayAbort; split
  · split
    · exact c.setProgram h ..
    · exact c.endProgram h ..
  · exact h

theorem bayRelease (b : BayNo) (s : State) (h : P s) : P (handleBayRelease b s).1 := by
  unfold handleBayRelease; split
  · exact c.openClamp h _
  · exact c.openClamp h _
  · exact c.openClamp (c.discardHold h ..) _
  · exact h

omit c in
theorem poolRead (r : RecordNo) (s : State) (h : P s) : P (handlePoolRead r s).1 := by
  unfold handlePoolRead; split <;> exact h

theorem poolDelete (r : RecordNo) (s : State) (h : P s) : P (handlePoolDelete r s).1 := by
  unfold handlePoolDelete; split
  · exact h
  · next hr =>
    split
    · exact h
    · dsimp only; exact c.deleteFrom h hr

theorem poolPlace (x : RecordNo × PositionNo) (s : State) (h : P s) : P (handlePoolPlace x s).1 := by
  unfold handlePoolPlace; split
  · exact h
  · next hr =>
    split
    · next hp => dsimp only; exact c.place h hr hp.2
    · exact h

theorem poolImport (f : ImportFacts) (s : State) (h : P s) : P (handlePoolImport f s).1 := by
  unfold handlePoolImport; split
  · exact h
  · next r hr =>
    have hr : s.record r = none := by simpa using List.find?_some hr
    split
    · next hp => dsimp only; exact c.bind h hr (by rw [hp]; rfl) (by rfl) (by rfl)
    · next hp => dsimp only; exact c.candidateNotice (c.bind h hr (by rw [hp]; rfl) (by rfl) (by rfl))
    · exact h

theorem stringBuild (q : StringRequest) (s : State) (h : P s) : P (handleStringBuild q s).1 := by
  unfold handleStringBuild; split
  · exact h
  · dsimp only; split <;> (dsimp only; exact c.buildString h ..)

theorem stringCancel (k : StringNo) (s : State) (h : P s) : P (handleStringCancel k s).1 := by
  unfold handleStringCancel; split
  · exact h
  · dsimp only; exact c.cancelString h ..

theorem stringClose (k : StringNo) (s : State) (h : P s) : P (handleStringClose k s).1 := by
  unfold handleStringClose; split
  · exact h
  · split
    · exact c.setString h ..
    · exact h

theorem lampPattern (x : PatternNo × Option Pattern) (s : State) (h : P s) : P (handleLampPattern x s).1 := by
  unfold handleLampPattern; split
  · exact h
  · exact c.lamps h (by rfl)

theorem lampRoles (x : Option (Vector PatternNo 10)) (s : State) (h : P s) : P (handleLampRoles x s).1 := by
  unfold handleLampRoles; split
  · exact h
  · exact c.lamps h (by rfl)

theorem lampOverride (x : LampNo × Option PatternNo) (s : State) (h : P s) : P (handleLampOverride x s).1 := by
  unfold handleLampOverride; split
  · exact h
  · exact c.lamps h (by rfl)

theorem lampRelease (x : Option LampNo) (s : State) (h : P s) : P (handleLampRelease x s).1 := by
  unfold handleLampRelease; split
  · exact c.lamps h (by rfl)
  · exact c.lamps h (by rfl)

/-- Every message type's handler keeps the property. -/
theorem handlerOf (type : Byte) (body : List Byte) : ∀ s, P s → P (Machine.handlerOf type body s).1 := by
  intro s hs
  generalize hf : Machine.handlerOf type body = f
  unfold Machine.handlerOf at hf
  split at hf <;> subst hf
  · exact State.Handled.withFields _ _ (fun _ _ h => h) s hs
  · exact State.Handled.withFields _ _ (fun _ s h => c.hold (s := s) h _) s hs
  · exact State.Handled.withFields _ _ c.settingWrite s hs
  · exact State.Handled.withFields _ _ (fun _ _ h => h) s hs
  · exact State.Handled.withFields _ _ c.eventsTake s hs
  · exact State.Handled.withFields _ _ c.eventClasses s hs
  · exact State.Handled.withFields _ _ c.watchEnter s hs
  · exact State.Handled.withFields _ _ c.profileLoad s hs
  · exact State.Handled.withFields _ _ State.Handled.profileRead s hs
  · exact State.Handled.withFields _ _ c.planLoad s hs
  · exact State.Handled.withFields _ _ State.Handled.planRead s hs
  · exact State.Handled.withFields _ _ c.gradeLimits s hs
  · exact State.Handled.withFields _ _ c.bayEngage s hs
  · exact State.Handled.withFields _ _ c.bayRun s hs
  · exact State.Handled.withFields _ _ c.bayAbort s hs
  · exact State.Handled.withFields _ _ c.bayRelease s hs
  · exact State.Handled.withFields _ _ (fun _ _ h => h) s hs
  · exact State.Handled.withFields _ _ State.Handled.poolRead s hs
  · exact State.Handled.withFields _ _ (fun _ _ h => h) s hs
  · exact State.Handled.withFields _ _ c.poolImport s hs
  · exact State.Handled.withFields _ _ c.poolDelete s hs
  · exact State.Handled.withFields _ _ c.poolPlace s hs
  · exact State.Handled.withFields _ _ (fun _ _ h => h) s hs
  · exact State.Handled.withFields _ _ c.stringBuild s hs
  · exact State.Handled.withFields _ _ (fun _ _ h => h) s hs
  · exact State.Handled.withFields _ _ c.stringCancel s hs
  · exact State.Handled.withFields _ _ c.stringClose s hs
  · exact State.Handled.withFields _ _ c.lampPattern s hs
  · exact State.Handled.withFields _ _ c.lampRoles s hs
  · exact State.Handled.withFields _ _ c.lampOverride s hs
  · exact State.Handled.withFields _ _ c.lampRelease s hs
  · exact hs

end State.Handled

/-! ## The owners leave the link's frames alone -/

/-- The transmit list is none of the owners' business (R177). -/
theorem State.transmit_handled (x : List Reply) : State.Handled fun s => s.link.transmit = x where
  bays h _ := h
  arbiter h _ := h
  holdQueue h _ := h
  strings h _ := h
  load h _ _ _ := h
  scanner h _ _ := h
  raise h _ := by simpa using h
  relight h := h
  record h _ _ _ := h
  position h _ _ := h
  marks h _ := h
  bind h _ _ _ _ := h
  rebind h _ _ _ _ := h
  drop h _ _ := h
  move h _ _ _ _ := h
  settings h _ _ := h
  profiles h _ := h
  plans h _ := h
  limits h _ := h
  events h _ _ := h
  lamps h _ _ := h
  watch h := h
  hold h _ := h

theorem State.wake_transmit (s : State) (x : WokenCause) : (s.wake x).link.transmit = s.link.transmit :=
  (State.transmit_handled _).wake rfl x

/-- An accepting link has a place left in its list (R177). -/
theorem Link.accepts_room (l : Link) (h : l.accepts = true) : l.transmit.length < Config.transmitPlaces := by
  simp only [Link.accepts, Bool.and_eq_true, decide_eq_true_eq] at h; exact h.2

/-! ## Timers of a program -/

namespace State.Stable

variable {P : State → Prop} (c : State.Stable P) {s : State}

include c

theorem decideIdent (h : P s) (b : BayNo) (p : Program) : P (s.decideIdent b p) := by
  unfold State.decideIdent State.beginRest; split
  · exact c.faultBay h ..
  · split
    · exact c.setProgram h ..
    · exact c.faultBay h ..
  · exact c.setProgram h ..

theorem askIfClear (h : P s) (b : BayNo) (p : Program) : P (s.askIfClear b p) := by
  unfold State.askIfClear; split
  · exact c.setProgram h ..
  · exact c.askForProgram h ..

theorem durationOver (h : P s) (b : BayNo) (p : Program) (x : Bool) : P (s.durationOver b p x) := by
  unfold State.durationOver; split
  · exact c.setProgram h ..
  · exact c.askForProgram h ..

theorem sampleDue (h : P s) (b : BayNo) (p : Program) : P (s.sampleDue b p) := by
  unfold State.sampleDue; split
  · exact c.setProgram h ..
  · exact c.askForProgram h ..

theorem engageSettled (h : P s) (b : BayNo) : P (s.engageSettled b) := by
  unfold State.engageSettled; split
  · exact c.raise (c.setBayState h ..) _
  · exact c.faultBay h ..

theorem guardOver (h : P s) (b : BayNo) : P (s.guardOver b) := by
  unfold State.guardOver; split
  · exact c.seat h _
  · exact c.vacate h _

end State.Stable

/-! ## Every command -/

namespace State.Kept

variable {P : State → Prop} (c : State.Kept P) {s : State}

include c

theorem elapse (h : P s) (d : Nat) : P (s.elapse d) := c.clock h _

theorem reach (h : P s) (m : Moment) : P (s.reach m) := by
  unfold State.reach; split
  · exact c.elapse h _
  · exact h

theorem hunt (h : P s) : P s.hunt := c.receiver h _

/-- A frame completes: whatever owner handles it, if its handler keeps the property and the transmit list. -/
theorem request (h : P s) (type tag : Byte) {f : Handler} (hf : ∀ s, P s → P (f s).1)
    (ht : ∀ s, (f s).1.link.transmit = s.link.transmit) : P (s.request type tag f) := by
  unfold State.request
  split
  · exact h
  split
  · exact c.hunt h
  · next ha =>
    refine c.reply (hf _ (c.wake (c.hunt h) _)) ?_ _
    rw [ht, State.wake_transmit]
    exact Link.accepts_room s.link (by simpa using ha)

/-- A frame of any type completes (R178). -/
theorem dispatched (h : P s) (type tag : Byte) (body : List Byte) : P (s.request type tag (handlerOf type body)) :=
  c.request h type tag (c.toHandled.handlerOf type body)
    fun s => (State.transmit_handled s.link.transmit).handlerOf type body s rfl

theorem rejectFrame (h : P s) (r : RejectReason) : P (s.rejectFrame r) := by
  unfold State.rejectFrame
  split
  · exact h
  split
  · exact c.hunt h
  · next ha => exact c.reply (c.hunt h) (Link.accepts_room s.link (by simpa using ha)) _

theorem takeReception (h : P s) (out : Receiver × Reception) : P (s.takeReception out) := by
  unfold State.takeReception
  split
  · exact h
  split
  · exact c.receiver h _
  · exact c.rejectFrame h _
  · exact c.rejectFrame h _
  · exact c.dispatched h ..

theorem fullReset (h : P s) (x : RestartCause) : P (s.fullReset x) := by
  unfold State.fullReset State.start
  exact c.raise (c.selectRow (c.bays (c.cleared h) _) _) _

theorem takeReset (h : P s) (k : ResetKind) : P (s.takeReset k) := by
  unfold State.takeReset; split
  · exact c.fullReset h _
  · exact c.lineStop h

theorem powerOn (h : P s) (x : Bool) {t : State} (he : execPowerOn x s = .next t) : P t := by
  have h' : P s.powerUp := c.settings (c.clock h _) (.inl (by rfl))
  unfold execPowerOn at he; split at he <;> cases he
  · exact c.resetInput (c.cleared h') _
  · exact c.fullReset (c.resetInput h' _) _

theorem replySent (h : P s) {t : State} (he : execReplySent s = .next t) : P t := by
  unfold execReplySent at he
  split at he
  · cases he; exact h
  · next x rest hx =>
    split at he
    · cases he
      exact c.takeReset (s := s.setLink { s.link with transmit := [], resetHold := none })
        (c.hold (s := s.setLink { s.link with transmit := [] }) (c.sent h hx) none) _
    · cases he; exact c.sent h hx

/-- Every command keeps the property. -/
theorem exec (h : P s) (i : Instr) {t : State} (he : Machine.exec i s = .next t) : P t := by
  have d := c.dispatched h
  cases i
  all_goals simp only [Machine.exec] at he
  case powerOn x => exact c.powerOn h x he
  case replySent => exact c.replySent h he
  case resetInputAssertion =>
    unfold execResetInputAssertion at he
    split at he
    · split at he <;> cases he
      · exact c.resetInput (c.cleared h) _
      · exact c.lineStop (c.resetInput h _)
    all_goals cases he; exact h
  case resetInputRelease =>
    unfold execResetInputRelease at he
    split at he <;> cases he
    · exact c.fullReset (c.resetInput h _) _
    · exact c.resetInput h _
    · exact h
  case frameRejectedGap =>
    unfold execFrameRejectedGap at he
    split at he <;> cases he
    · exact c.rejectFrame (c.reach h _) _
    · exact h
  case frameRejectedSize => cases he; exact c.takeReception h _
  case frameRejectedCheck => cases he; exact c.takeReception h _
  case syncByte => cases he; exact c.takeReception h _
  case bayContactChange =>
    unfold execBayContactChange at he; dsimp only at he
    repeat' split at he
    all_goals cases he
    all_goals first | with_reducible exact h | exact c.setBay h ..
  case conversionComplete =>
    unfold execConversionComplete at he; split at he <;> cases he
    · exact c.completeConversion (c.reach h _) ..
    · exact h
  case agingTimerExpiry =>
    unfold execAgingTimerExpiry at he; split at he <;> cases he
    · exact c.startAged (c.reach h _)
    · exact h
  case dwellTimerExpiry =>
    unfold execDwellTimerExpiry at he; split at he <;> cases he
    · exact c.dwellOver (c.reach h _) _
    · exact h
  case watchTimerExpiry =>
    unfold execWatchTimerExpiry at he; split at he <;> cases he
    · exact c.selectRow (c.reach h _) _
    · exact h
  case pulseTimerExpiry =>
    unfold execPulseTimerExpiry at he; split at he <;> cases he
    · exact c.events (c.reach h _) (by exact Nat.le_refl _)
    · exact h
  case debounceExpiry =>
    unfold execDebounceExpiry at he; split at he <;> cases he
    · exact c.debounced (c.reach h _) ..
    · exact h
  case engageSettleExpiry =>
    unfold execEngageSettleExpiry at he; split at he <;> cases he
    · exact c.engageSettled (c.reach h _) _
    · exact h
  case releaseGuardExpiry =>
    unfold execReleaseGuardExpiry at he; split at he <;> cases he
    · exact c.guardOver (c.reach h _) _
    · exact h
  case unknownType type tag body => cases he; exact c.dispatched h ..
  case tagReaderAnswer =>
    unfold execTagReaderAnswer at he; repeat' split at he
    all_goals cases he
    all_goals first | with_reducible exact h | exact c.setProgram h ..
  case readTimerExpiry =>
    unfold execReadTimerExpiry at he; repeat' split at he
    all_goals cases he
    all_goals first | with_reducible exact h | exact c.decideIdent (c.reach h _) ..
  case restTimerExpiry =>
    unfold execRestTimerExpiry at he; repeat' split at he
    all_goals cases he
    all_goals first | with_reducible exact h | exact c.askForProgram (c.reach h _) ..
  case coolWaitTimerExpiry =>
    unfold execCoolWaitTimerExpiry at he; repeat' split at he
    all_goals cases he
    all_goals first | with_reducible exact h | exact c.askIfClear (c.reach h _) ..
  case monitorTimerExpiry =>
    unfold execMonitorTimerExpiry at he; repeat' split at he
    all_goals cases he
    all_goals first | with_reducible exact h | exact c.askIfClear (c.reach h _) ..
  case durationTimerExpiry =>
    unfold execDurationTimerExpiry at he; repeat' split at he
    all_goals cases he
    all_goals first | with_reducible exact h | exact c.durationOver (c.reach h _) ..
  case recoveryTimerExpiry =>
    unfold execRecoveryTimerExpiry at he; repeat' split at he
    all_goals cases he
    all_goals first | with_reducible exact h | exact c.recovered (c.reach h _) ..
  case sampleTimerExpiry =>
    unfold execSampleTimerExpiry at he; repeat' split at he
    all_goals cases he
    all_goals first | with_reducible exact h | exact c.sampleDue (c.reach h _) ..
  case timeLimitExpiry =>
    unfold execTimeLimitExpiry at he; repeat' split at he
    all_goals cases he
    all_goals first | with_reducible exact h | exact c.endDrain (c.reach h _) ..
  case settleTimerExpiry =>
    unfold execSettleTimerExpiry at he; repeat' split at he
    all_goals cases he
    all_goals first | with_reducible exact h | exact c.askForProgram (c.reach h _) ..
  case status tag body => cases he; exact d 0x01 tag body
  case resetFull tag body => cases he; exact d 0x02 tag body
  case resetLine tag body => cases he; exact d 0x02 tag body
  case settingWrite tag body => cases he; exact d 0x03 tag body
  case settingRead tag body => cases he; exact d 0x04 tag body
  case eventsTake tag body => cases he; exact d 0x05 tag body
  case eventClasses tag body => cases he; exact d 0x06 tag body
  case watchEnter tag body => cases he; exact d 0x07 tag body
  case profileLoad tag body => cases he; exact d 0x10 tag body
  case profileRead tag body => cases he; exact d 0x11 tag body
  case planLoad tag body => cases he; exact d 0x12 tag body
  case planRead tag body => cases he; exact d 0x13 tag body
  case gradeLimits tag body => cases he; exact d 0x14 tag body
  case gradeLimitsRead tag body => cases he; exact d 0x14 tag body
  case bayEngage tag body => cases he; exact d 0x20 tag body
  case bayRun tag body => cases he; exact d 0x21 tag body
  case bayAbort tag body => cases he; exact d 0x22 tag body
  case bayRelease tag body => cases he; exact d 0x23 tag body
  case bayQuery tag body => cases he; exact d 0x24 tag body
  case poolRead tag body => cases he; exact d 0x30 tag body
  case poolList tag body => cases he; exact d 0x31 tag body
  case poolImport tag body => cases he; exact d 0x32 tag body
  case poolDelete tag body => cases he; exact d 0x33 tag body
  case poolPlace tag body => cases he; exact d 0x34 tag body
  case positionRead tag body => cases he; exact d 0x35 tag body
  case stringBuild tag body => cases he; exact d 0x40 tag body
  case stringRead tag body => cases he; exact d 0x41 tag body
  case stringCancel tag body => cases he; exact d 0x42 tag body
  case stringClose tag body => cases he; exact d 0x43 tag body
  case lampPattern tag body => cases he; exact d 0x50 tag body
  case lampPatternRead tag body => cases he; exact d 0x50 tag body
  case lampRoles tag body => cases he; exact d 0x51 tag body
  case lampRolesRead tag body => cases he; exact d 0x51 tag body
  case lampOverride tag body => cases he; exact d 0x52 tag body
  case lampOverrideRead tag body => cases he; exact d 0x52 tag body
  case lampRelease tag body => cases he; exact d 0x53 tag body

/-- Every step keeps the property. -/
theorem step (h : P s) {t : State} (he : Machine.step s = .next t) : P t := by
  unfold Machine.step at he
  split at he
  · cases he; exact c.elapse h _
  · exact c.exec (c.pending h _) _ he

end State.Kept

end Sys2Proof.Machine
end

