-- ==== Sys2Proof/Laws/Link.lean ====
section
/-! SUPPORT. What the link operations can do: the end of a reception, a request to a listening part, and a rejected frame. -/

namespace Sys2Proof.Machine

/-- The end of a reception changes the receiver alone. -/
theorem State.hunt_eq (s : State) : s.hunt = { s with link := { s.link with receiver := {} } } := rfl

/-- A reply joins the list and nothing else changes. -/
theorem State.answered_eq (s : State) (type tag : Byte) (body : ReplyBody) :
    s.answered type tag body = s.hunt.reply ⟨type, tag, body⟩ := rfl

/-- In active operation a wake does nothing (R121). -/
theorem State.wake_active {s : State} (h : s.scanner.mode = .active) (c : WokenCause) : s.wake c = s := by
  unfold State.wake; rw [h]; rfl

/-- A request to a part that attends is handled by its owner and answered (R178). -/
theorem State.request_attending {s : State} (h : s.attending) (type tag : Byte) (f : Handler) :
    s.request type tag f = (f s.hunt).1.reply ⟨replyType type, tag, (f s.hunt).2⟩ := by
  obtain ⟨⟨h1, h2⟩, h3⟩ := h
  unfold State.request
  have awake : s.hunt.wake .link = s.hunt := State.wake_active (s := s.hunt) h3 .link
  rw [if_neg (by simp [h1]), if_neg (by simp [h2]), awake]

/-- A request that its handler leaves the state alone for is answered, and nothing else changes. -/
theorem State.request_unchanged {s : State} (h : s.attending) (type tag : Byte) (f : Handler) (body : ReplyBody)
    (hf : f s.hunt = (s.hunt, body)) : s.request type tag f = s.answered (replyType type) tag body := by
  rw [State.request_attending h, hf]; rfl

/-- A rejected frame is answered by a FRAME_REJECTED of tag 0 (R176). -/
theorem State.rejectFrame_listening {s : State} (h : s.listening) (r : RejectReason) :
    s.rejectFrame r = s.answered 0xFF 0 (.frameRejected r) := by
  obtain ⟨h1, h2⟩ := h
  unfold State.rejectFrame
  rw [if_neg (by simp [h1]), if_neg (by simp [h2])]; rfl

/-- Fields read and checked reach their owner. -/
theorem withFields_ok {α : Type} {fields : Except Status α} {x : α} (h : fields = .ok x) (f : α → Handler) (s : State) :
    withFields fields f s = f x s := by rw [h]; rfl

/-- A failing status is answered and nothing is changed (R178). -/
theorem withFields_error {α : Type} {fields : Except Status α} {x : Status} (h : fields = .error x) (f : α → Handler)
    (s : State) : withFields fields f s = (s, .plain x) := by rw [h]; rfl

/-- The one number of a request of one byte (R173). -/
theorem numberField_byte (n : Nat) (x : Byte) (h : x.toNat < n) : numberField n [x] = .ok ⟨x.toNat, h⟩ := by
  simp [numberField, sized, toFin, u8, h]

theorem numberField_range (n : Nat) (x : Byte) (h : n ≤ x.toNat) : numberField n [x] = .error .range := by
  simp [numberField, sized, toFin, u8, Nat.not_lt.2 h]

theorem sized_length {α : Type} (body : List Byte) (n : Nat) (x : Option α) (h : body.length ≠ n) :
    sized body n x = .error .length := by simp [sized, h]

end Sys2Proof.Machine
end

