-- ==== Sys2Proof/Laws/LoadBus.lean ====
section
/-! SUPPORT. What the operations of the load bus can do: a grant, an examination, a return and an entry leaving the queue change the
load bus, the bays told of grants and the events alone, and leave a bay with no entry waiting as it is. -/

namespace Sys2Proof.Machine

/-- A bay told of its grant changes its own program alone (R29, R34, R55). -/
theorem State.loadOn_frame (s : State) (b : BayNo) : { s.loadOn b with bays := s.bays } = s ∧ ∀ c, c ≠ b → (s.loadOn b).bay c = s.bay c := by
  unfold State.loadOn
  have key : ∀ p, { s.setProgram b p with bays := s.bays } = s ∧ ∀ c, c ≠ b → (s.setProgram b p).bay c = s.bay c := by
    intro p
    refine ⟨rfl, fun c h => ?_⟩
    simp [State.setProgram, State.setBayState, State.setBay, State.setBays, State.bay]
    rw [Vector.getElem_set_ne]
    intro hc; exact h (Fin.ext hc.symm)
  cases hp : s.program b with
  | none => exact ⟨rfl, fun _ _ => rfl⟩
  | some p => cases hph : p.phase <;> dsimp only <;> rw [hph] <;> first | exact key _ | exact ⟨rfl, fun _ _ => rfl⟩

/-- A grant sets its bay's granted current, counts a start unless it is a restore, and keeps the queue (R49, R50, R55). -/
theorem State.grantEntry_frame (s : State) (e : GrantEntry) :
    { s.grantEntry e with load := s.load, bays := s.bays, events := s.events } = s ∧
    (s.grantEntry e).load.granted = s.load.granted.set e.bay e.current ∧
    (s.grantEntry e).load.queue = s.load.queue ∧
    (s.grantEntry e).load.starts.length = s.load.starts.length + (if e.isRestore then 0 else 1) ∧
    ∀ c, c ≠ e.bay → (s.grantEntry e).bay c = s.bay c := by
  have start : e.isRestore = false → s.grantEntry e = (s.setLoad { s.load with granted := s.load.granted.set e.bay e.current, starts := s.load.starts ++ [s.now] }).loadOn e.bay := by
    intro h; unfold State.grantEntry; unfold GrantEntry.isRestore at h
    split <;> simp_all
  cases hr : e.isRestore with
  | false =>
    rw [start hr]
    obtain ⟨h1, h2⟩ := State.loadOn_frame (s.setLoad { s.load with granted := s.load.granted.set e.bay e.current, starts := s.load.starts ++ [s.now] }) e.bay
    generalize State.loadOn e.bay _ = u at *
    have hl : u.load = { s.load with granted := s.load.granted.set e.bay e.current, starts := s.load.starts ++ [s.now] } := by
      have := congrArg State.load h1; exact this
    refine ⟨?_, by rw [hl], by rw [hl], by rw [hl]; simp, h2⟩
    have hh := congrArg (fun w : State => { w with load := s.load, events := s.events }) h1
    exact hh
  | true =>
    unfold GrantEntry.isRestore at hr
    unfold State.grantEntry
    split at hr
    · rename_i h hk
      rw [State.raise_eq]
      exact ⟨rfl, rfl, rfl, rfl, fun _ _ => rfl⟩
    · cases hr

/-- An examination of an empty queue does nothing (R53). -/
theorem State.examineUpTo_nil (n : Nat) (s : State) (h : s.load.queue = []) : State.examineUpTo (n + 1) s = s := by
  rw [State.examineUpTo, h]

/-- An examination grants a head that fits and goes on (R53). -/
theorem State.examineUpTo_cons (n : Nat) (s : State) (e : GrantEntry) (rest : List GrantEntry) (h : s.load.queue = e :: rest) : State.examineUpTo (n + 1) s = if s.fits e then State.examineUpTo n ((s.setLoad { s.load with queue := rest }).grantEntry e) else s := by
  rw [State.examineUpTo, h]

/-- An examination takes a run of entries off the head of the queue; a bay with none of them keeps its state and its grant (R53). -/
theorem State.examineUpTo_others (n : Nat) : ∀ s : State,
    (∃ granted, s.load.queue = granted ++ (State.examineUpTo n s).load.queue ∧
      (∀ b, (∀ e ∈ granted, e.bay ≠ b) →
        (State.examineUpTo n s).bay b = s.bay b ∧ (State.examineUpTo n s).load.granted[b] = s.load.granted[b])) ∧
    { State.examineUpTo n s with load := s.load, bays := s.bays, events := s.events } = s := by
  induction n with
  | zero => intro s; exact ⟨⟨[], rfl, fun _ _ => ⟨rfl, rfl⟩⟩, rfl⟩
  | succ n ih =>
    intro s
    by_cases hq : s.load.queue = []
    · rw [State.examineUpTo_nil n s hq]
      exact ⟨⟨[], rfl, fun _ _ => ⟨rfl, rfl⟩⟩, rfl⟩
    · obtain ⟨e, rest, hq⟩ := List.exists_cons_of_ne_nil hq
      rw [State.examineUpTo_cons n s e rest hq]
      by_cases hf : s.fits e = true
      · rw [if_pos hf]
        obtain ⟨g1, g2, g3, g4, g5⟩ := State.grantEntry_frame (s.setLoad { s.load with queue := rest }) e
        generalize hu : State.grantEntry e _ = u at *
        obtain ⟨⟨gr, i3, i3'⟩, i5⟩ := ih u
        refine ⟨⟨e :: gr, ?_, ?_⟩, ?_⟩
        · have : u.load.queue = rest := g3
          rw [this] at i3
          rw [hq, i3]; rfl
        · intro b hb
          have hne : b ≠ e.bay := fun h => hb e (by simp) h.symm
          obtain ⟨j1, j2⟩ := i3' b (fun x hx => hb x (by simp [hx]))
          refine ⟨j1.trans (g5 b hne), j2.trans ?_⟩
          rw [g2]
          show (s.load.granted.set e.bay e.current)[b] = _
          simp only [Fin.getElem_fin]
          rw [Vector.getElem_set_ne]
          intro hc; exact hne (Fin.ext hc.symm)
        · have := congrArg (fun w : State => { w with load := s.load, bays := s.bays, events := s.events }) i5
          refine Eq.trans this ?_
          have g1' := congrArg (fun w : State => { w with load := s.load }) g1
          exact g1'
      · rw [if_neg hf]
        exact ⟨⟨[], rfl, fun _ _ => ⟨rfl, rfl⟩⟩, rfl⟩

/-- No entry of a bay is left once the bay has left the queue (R52). -/
theorem filter_leaves (q : List GrantEntry) (b : BayNo) : ∀ e ∈ q.filter (fun e => e.bay != b), e.bay ≠ b := by
  intro e he; simpa using (List.mem_filter.1 he).2

/-- An examination leaves a bay with no entry in the queue as it is (R53). -/
theorem State.examine_others (s : State) (b : BayNo) (h : ∀ e ∈ s.load.queue, e.bay ≠ b) :
    s.examine.bay b = s.bay b ∧ s.examine.load.granted[b] = s.load.granted[b] ∧ (∀ e ∈ s.examine.load.queue, e.bay ≠ b) ∧
    { s.examine with load := s.load, bays := s.bays, events := s.events } = s := by
  obtain ⟨⟨g, h3, h6⟩, h5⟩ := State.examineUpTo_others s.load.queue.length s
  have := h6 b (fun e he => h e (by rw [h3]; simp [he]))
  refine ⟨this.1, this.2, fun e he => h e (by rw [h3]; exact List.mem_append_right _ he), h5⟩

/-- A bay that leaves the queue has no entry left there; its grant and its own state stay (R52). -/
theorem State.leaveGrantQueue_facts (s : State) (b : BayNo) :
    (s.leaveGrantQueue b).bay b = s.bay b ∧ (s.leaveGrantQueue b).load.granted[b] = s.load.granted[b] ∧ (∀ e ∈ (s.leaveGrantQueue b).load.queue, e.bay ≠ b) ∧
    { s.leaveGrantQueue b with load := s.load, bays := s.bays, events := s.events } = s := by
  have hx := State.examine_others (s.setLoad { s.load with queue := s.load.queue.filter fun e => e.bay != b }) b (filter_leaves _ _)
  have same : ∀ u : State, u = s.setLoad { s.load with queue := s.load.queue.filter fun e => e.bay != b } → u.bay b = s.bay b ∧ u.load.granted[b] = s.load.granted[b] ∧ (∀ e ∈ u.load.queue, e.bay ≠ b) ∧
      { u with load := s.load, bays := s.bays, events := s.events } = s := by
    rintro u rfl; exact ⟨rfl, rfl, filter_leaves _ _, rfl⟩
  unfold State.leaveGrantQueue
  dsimp only
  split
  · split
    · refine ⟨hx.1, hx.2.1, hx.2.2.1, ?_⟩
      have := congrArg (fun w : State => { w with load := s.load }) hx.2.2.2
      exact this
    · exact same _ rfl
  · exact same _ rfl

/-- A bay that returns its grant holds none; the head is examined (R56). -/
theorem State.returnGrant_facts (s : State) (b : BayNo) (h : s.load.granted[b] = 0 ∨ ∀ e ∈ s.load.queue, e.bay = b → e.isRestore = true) :
    (s.returnGrant b).bay b = s.bay b ∧ (s.returnGrant b).load.granted[b] = 0 ∧
    { s.returnGrant b with load := s.load, bays := s.bays, events := s.events } = s := by
  unfold State.returnGrant
  split
  · exact ⟨rfl, ‹_›, rfl⟩
  · rename_i h0
    have hq : ∀ e ∈ (s.setLoad { s.load with
      granted := s.load.granted.set b 0
      derated := s.load.derated.set b none
      queue := s.load.queue.filter fun e => !(e.isRestore && e.bay == b) }).load.queue, e.bay ≠ b := by
      intro e he hb
      obtain ⟨h1, h2⟩ := List.mem_filter.1 he
      rcases h with h | h
      · exact h0 h
      · simp [h e h1 hb, hb] at h2
    obtain ⟨h1, h2, h3, h4⟩ := State.examine_others _ b hq
    refine ⟨h1, h2.trans ?_, ?_⟩
    · show (s.load.granted.set b 0)[b] = 0
      simp
    · have := congrArg (fun w : State => { w with load := s.load }) h4
      exact this

/-- A bay that gives up the load bus holds no grant and no entry (R8, R14, R43). -/
theorem State.return_then_leave (s : State) (b : BayNo) (h : s.load.granted[b] = 0 ∨ ∀ e ∈ s.load.queue, e.bay = b → e.isRestore = true) :
    ((s.returnGrant b).leaveGrantQueue b).bay b = s.bay b ∧ ((s.returnGrant b).leaveGrantQueue b).load.granted[b] = 0 ∧
    (∀ e ∈ ((s.returnGrant b).leaveGrantQueue b).load.queue, e.bay ≠ b) ∧
    { (s.returnGrant b).leaveGrantQueue b with load := s.load, bays := s.bays, events := s.events } = s := by
  obtain ⟨a1, a2, a3⟩ := State.returnGrant_facts s b h
  obtain ⟨b1, b2, b3, b4⟩ := State.leaveGrantQueue_facts (s.returnGrant b) b
  refine ⟨b1.trans a1, b2.trans a2, b3, ?_⟩
  have := congrArg (fun w : State => { w with load := s.load, bays := s.bays, events := s.events }) b4
  exact Eq.trans this a3

/-- Events raised one after another change the event block alone (R162). -/
theorem State.raiseAll_eq (ws : List Happening) (s : State) : ∃ e, s.raiseAll ws = s.setEvents e := by
  induction ws generalizing s with
  | nil => exact ⟨s.events, rfl⟩
  | cons w ws ih =>
    obtain ⟨e, he⟩ := ih (s.raise w)
    refine ⟨e, ?_⟩
    unfold State.raiseAll
    rw [he, State.raise_eq]; rfl

end Sys2Proof.Machine
end

