-- ==== Sys2Proof/Laws/Watch.lean ====
section
/-! SUPPORT. What the selection of a row and the end of shelf watch can do. -/

namespace Sys2Proof.Machine

/-- The selection of a row changes the scanner and the arbiter alone, and keeps the scan mode (R106, R110). -/
theorem State.selectRow_eq (s : State) (r : RowNo) : s.selectRow r = (s.setScanner (s.selectRow r).scanner).setArbiter (s.selectRow r).arbiter ∧ (s.selectRow r).scanner.mode = s.scanner.mode := by
  unfold State.selectRow State.dueTest
  split
  · exact ⟨rfl, rfl⟩
  · exact ⟨rfl, rfl⟩

/-- The selection of a row reads the clock, the settings, the scanner, the arbiter, the records and the positions alone (R106,
R110). -/
theorem State.selectRow_congr {s t : State} (r : RowNo) (clock : s.clock = t.clock) (settings : s.settings = t.settings)
    (scanner : s.scanner = t.scanner) (arbiter : s.arbiter = t.arbiter) (records : s.records = t.records)
    (positions : s.positions = t.positions) :
    (s.selectRow r).scanner = (t.selectRow r).scanner ∧ (s.selectRow r).arbiter = (t.selectRow r).arbiter := by
  obtain ⟨⟩ := s
  obtain ⟨⟩ := t
  dsimp only at clock settings scanner arbiter records positions
  subst clock settings scanner arbiter records positions
  unfold State.selectRow State.dueTest
  generalize hs : State.setScanner _ _ = x
  generalize ht : State.setScanner _ _ = y
  have due : x.nextDue = y.nextDue := by subst hs ht; rfl
  rw [due]
  cases y.nextDue <;> (subst hs ht; exact ⟨rfl, rfl⟩)

/-- The end of a watch changes the scanner, the arbiter and the dark mark alone (R121, R123, R158). -/
theorem State.leaveWatch_eq (s : State) : s.leaveWatch = ((s.setScanner s.leaveWatch.scanner).setArbiter s.leaveWatch.arbiter).setLamps { s.lamps with dark := false } ∧ s.leaveWatch.scanner.mode = .active := by
  unfold State.leaveWatch
  by_cases h : s.scanner.stage = .betweenPasses
  · obtain ⟨h1, h2⟩ := State.selectRow_eq ((s.setScanner { s.scanner with mode := .active }).setLamps { s.lamps with dark := false }) 0
    simp only [State.setScanner, State.setLamps, h, if_true] at h1 h2 ⊢
    refine ⟨?_, h2⟩
    generalize hx : State.selectRow 0 _ = x at h1 h2 ⊢
    rw [h1]; rfl
  · simp only [State.setScanner, State.setLamps, h, if_false]
    exact ⟨rfl, trivial⟩

/-- An event of an enabled class joins the tail of a queue with room (R162). -/
theorem State.raise_room (s : State) (w : Happening) (h : s.events.enables.allows w.cls = true) (hl : s.events.queue.length < 64) :
    (s.raise w).events.queue = s.events.queue ++ [⟨s.clock.seconds, w⟩] ∧ (s.raise w).events.enables = s.events.enables ∧ (s.raise w).clock = s.clock := by
  unfold State.raise Config.eventPlaces
  rw [if_pos h, if_pos hl]; exact ⟨rfl, rfl, rfl⟩

end Sys2Proof.Machine
end

