-- ==== Sys2Proof/WellFormed.lean ====
section
/-! DEFINITION. Which commands the part can be sent: bodies a frame can carry, the form of each two-form request, frames that
fail as their row says, and measured values within the ranges of 00_scope.md. -/

namespace Sys2Proof

/-- A body that a frame's length field can give (R173). -/
def bodyFits (body : List Byte) : Bool := body.length ≤ Config.maxBody

/-- A body whose presence mark at `i` says absent and which ends there: the read form of a request (R76, R153, R154, R156). -/
def readForm (i : Nat) (body : List Byte) : Bool := body.length == i + 1 && body.getD i 0 == 0

/-- A module voltage in mV (00_scope.md, Units and ranges). -/
def voltageInRange (v : Nat) : Bool := v ≤ 120000

/-- A current in cA. -/
def currentInRange (c : Nat) : Bool := c ≤ 30000

/-- A temperature in °C. -/
def temperatureInRange (t : Int) : Bool := -40 ≤ t && t ≤ 125

/-- The two rows of RESET share a type and a body of one byte: kind LINE is the LINE row's alone, and every other body, the
malformed ones too, is the FULL row's (assumption 7). -/
def Instr.wellFormed : Instr → Bool
  | .powerOn _ | .resetInputAssertion | .resetInputRelease => true
  | .status _ body | .settingWrite _ body | .settingRead _ body | .eventsTake _ body | .eventClasses _ body
  | .watchEnter _ body | .profileLoad _ body | .profileRead _ body | .planLoad _ body | .planRead _ body
  | .bayEngage _ body | .bayRun _ body | .bayAbort _ body | .bayRelease _ body | .bayQuery _ body | .poolRead _ body
  | .poolList _ body | .poolImport _ body | .poolDelete _ body | .poolPlace _ body | .positionRead _ body
  | .stringBuild _ body | .stringRead _ body | .stringCancel _ body | .stringClose _ body | .lampRelease _ body =>
    bodyFits body
  | .resetFull _ body => bodyFits body && body != [1]
  | .resetLine _ body => body == [1]
  | .gradeLimits _ body | .lampRoles _ body => bodyFits body && !readForm 0 body
  | .gradeLimitsRead _ body | .lampRolesRead _ body => readForm 0 body
  | .lampPattern _ body | .lampOverride _ body => bodyFits body && !readForm 1 body
  | .lampPatternRead _ body | .lampOverrideRead _ body => readForm 1 body
  | .unknownType type _ body => bodyFits body && !Machine.isMessageType type
  | .frameRejectedGap | .replySent | .syncByte => true
  | .frameRejectedSize low high => Config.maxBody < low.toNat + 256 * high.toNat
  | .frameRejectedCheck type tag body check =>
    bodyFits body && Machine.crc16 (Machine.checkedBytes type tag body) != check
  | .bayContactChange _ _ _ | .debounceExpiry _ _ | .engageSettleExpiry _ | .releaseGuardExpiry _
  | .tagReaderAnswer _ _ | .readTimerExpiry _ | .restTimerExpiry _ | .coolWaitTimerExpiry _ | .monitorTimerExpiry _
  | .durationTimerExpiry _ | .recoveryTimerExpiry _ | .sampleTimerExpiry _ | .timeLimitExpiry _
  | .settleTimerExpiry _ => true
  | .conversionComplete v c mt ht =>
    voltageInRange v && currentInRange c && temperatureInRange mt && temperatureInRange ht
  | .agingTimerExpiry | .dwellTimerExpiry _ | .watchTimerExpiry | .pulseTimerExpiry => true

end Sys2Proof
end

