-- ==== Sys2Proof/Tests/Slice0.lean ====
section
/-! SUPPORT. The model's own tests: ill-formed commands refused, the spec's worked figures, one step of each command on a small state,
and for each statement with hypotheses a state and operands that meet them. -/

namespace Sys2Proof.Tests

set_option Elab.async false

open Sys2Proof Sys2Proof.Machine

/-! ## Ill-formed commands -/

theorem test_body_too_long : Instr.wellFormed (.status 0 (List.replicate 1025 0)) = false := by decide +kernel
theorem test_body_longest : Instr.wellFormed (.status 0 (List.replicate 1024 0)) = true := by decide +kernel
theorem test_reset_full_of_kind_line : Instr.wellFormed (.resetFull 0 [1]) = false := by decide
theorem test_reset_line_of_kind_full : Instr.wellFormed (.resetLine 0 [0]) = false := by decide
theorem test_limits_write_without_set : Instr.wellFormed (.gradeLimits 0 [0]) = false := by decide
theorem test_limits_read_with_set : Instr.wellFormed (.gradeLimitsRead 0 (1 :: List.replicate 12 0)) = false := by decide
theorem test_roles_write_without_map : Instr.wellFormed (.lampRoles 0 [0]) = false := by decide
theorem test_roles_read_with_map : Instr.wellFormed (.lampRolesRead 0 (1 :: List.replicate 10 0)) = false := by decide
theorem test_pattern_write_without_fields : Instr.wellFormed (.lampPattern 0 [3, 0]) = false := by decide
theorem test_pattern_read_with_fields : Instr.wellFormed (.lampPatternRead 0 (3 :: 1 :: List.replicate 11 0)) = false := by decide
theorem test_override_without_pattern : Instr.wellFormed (.lampOverride 0 [9, 0]) = false := by decide
theorem test_override_read_with_pattern : Instr.wellFormed (.lampOverrideRead 0 [9, 1, 2]) = false := by decide
theorem test_unknown_type_that_is_known : Instr.wellFormed (.unknownType 0x53 0 []) = false := by decide
theorem test_size_that_fits : Instr.wellFormed (.frameRejectedSize 0x00 0x04) = false := by decide
theorem test_check_that_matches :
    Instr.wellFormed (.frameRejectedCheck 0x01 0x02 [] (crc16 [0, 0, 1, 2])) = false := by decide +kernel
theorem test_voltage_out_of_range : Instr.wellFormed (.conversionComplete 120001 0 25 25) = false := by decide
theorem test_current_out_of_range : Instr.wellFormed (.conversionComplete 0 30001 25 25) = false := by decide
theorem test_module_temp_out_of_range : Instr.wellFormed (.conversionComplete 0 0 126 25) = false := by decide
theorem test_heatsink_out_of_range : Instr.wellFormed (.conversionComplete 0 0 25 (-41)) = false := by decide

/-! ## The spec's worked figures -/

/-- Profile 0 of 02_the_test_program.md's example. -/
def cellProfile : Profile :=
  ⟨#v[3000, 3300, 3420, 3480, 3520, 3555, 3585, 3610, 3630, 3650, 3670, 3690, 3715, 3745, 3780, 3820, 3865, 3915, 3970, 4040,
      4150], 60⟩

/-- Plan 1 of the same example. -/
def fullPlan : Plan where
  restTime := 10000
  pulseCurrent := 10000
  pulseDuration := 9500
  recoveryTime := 30000
  drain := true
  drainCurrent := 5000
  drainDepth := 500
  floorVoltage := 3450
  timeLimit := 3600
  settleWindow := 60
  stabilityBand := 2
  windowLow := 10
  windowHigh := 45

/-- 04_grading_arithmetic.md, R67's table of twelve-cell modules. -/
theorem test_states_of_charge :
    [35400, 36000, 37800, 41760, 45720, 45731, 49200, 49800, 50160].map (fun v => stateOfCharge cellProfile v 12) =
      [0, 0, 25, 150, 737, 737, 977, 1000, 1000] := by decide +kernel

/-- R68's table: per-cell voltages and temperatures at the gate. -/
theorem test_gate_answers :
    ([(2999, 25), (2999, 5), (3000, 25), (3810, 10), (3810, 9), (3810, 45), (4200, 25), (4201, 25), (4201, 50)] :
      List (Nat × Int)).map (fun x => restGate cellProfile fullPlan 12 (x.1 * 12) x.2) =
      [.rejectDeep, .rejectDeep, .pass 0, .pass 737, .tempOut, .pass 737, .pass 1000, .rejectOver, .rejectOver] := by
  decide +kernel

/-- R69-R71's worked module. -/
theorem test_resistance_figures :
    measuredResistance 45720 45468 10000 = 2520 ∧ resistanceAt25 2520 60 31 = 2432 ∧ resistanceRatio 2432 1800 = 1351 ∧
      resistanceAt25 2520 60 15 = 2680 ∧ resistanceRatio 2680 1800 = 1488 := by decide

/-- R72-R74's worked modules. -/
theorem test_capacities :
    drainCapacity 36000000 64000 446 = some ⟨56053, 875⟩ ∧ drainCapacity 1728000000 64000 50 = some ⟨1000000, 1200⟩ ∧
      drainCapacity 36000000 64000 49 = none := by decide

/-- R77: the worked module's grade under the limits' defaults. -/
theorem test_worked_grade : GradeLimits.defaults.uncapped (some ⟨56053, 875⟩) 1351 = .b := by decide

/-- 06_rack_scanning_and_shelf_watch.md's example of one record's drift, with R114's further figures. -/
theorem test_drifts :
    [(42955, 53200), (42935, 53200), (42900, 96400), (42600, 96400)].map
      (fun x : Nat × Nat => driftOf ⟨42961, 10000⟩ x.1 x.2 12) = [1000, 4333, 5083, 30083] := by decide

/-- 08_guidance_lamps.md's breathing cycle of pattern 4. -/
theorem test_breathing_cycle :
    [0, 100, 200, 300, 399, 400, 1000, 1100, 1200, 1300, 1399].map (Pattern.defaults[4]).level =
      [0, 63, 127, 191, 254, 255, 255, 191, 127, 63, 0] ∧
    [63, 127, 191, 254, 255].map (Curve.drive .square) = [3969, 16129, 36481, 64516, 65025] ∧
    [63, 127].map (Curve.drive .linear) = [16065, 32385] := by decide +kernel

/-- R174's check value of the nine digits. -/
theorem test_check_value : crc16 [0x31, 0x32, 0x33, 0x34, 0x35, 0x36, 0x37, 0x38, 0x39] = 0x29B1 := by decide +kernel

/-- The candidates of 07_string_pairing.md's example: records 2, 4, 7, 9 and 11. -/
def pairingCandidates : List Candidate :=
  [⟨2, ⟨some 53400, 2100, 42950, none⟩⟩, ⟨4, ⟨some 52100, 2300, 42900, none⟩⟩, ⟨7, ⟨some 54900, 2390, 43050, none⟩⟩,
   ⟨9, ⟨some 53000, 2380, 43010, none⟩⟩, ⟨11, ⟨some 56053, 2432, 42955, none⟩⟩]

/-- The example's CAPACITY request. -/
def byCapacity : StringRequest := ⟨0, 12, 3, .capacity, 1500, 300, 200, .b⟩

/-- The example's RESISTANCE request. -/
def byResistance : StringRequest := ⟨0, 12, 3, .resistance, 0, 150, 200, .b⟩

theorem test_pairing_windows :
    (byCapacity.search pairingCandidates).map (List.map Candidate.record) = some [4, 9, 2] ∧
      (byResistance.search pairingCandidates).map (List.map Candidate.record) = some [9, 7, 11] := by decide +kernel

/-! ## One step of each command -/

/-- The state a command leaves. -/
def after (c : Instr) (s : State) : Option State :=
  match exec c s with
  | .next t => some t
  | .fault _ | .refused _ => none

/-- The replies waiting after a command. -/
def replies (c : Instr) (s : State) : Option (List Reply) := (after c s).map fun t => t.link.transmit

/-- The event records queued after a command, without the RESTART that stood before. -/
def queued (c : Instr) (s : State) : Option (List Event) := (after c s).map fun t => t.events.queue.drop 1

/-- A part that has run for 7,900 s, with the example's profile and plan loaded. -/
def bench : State :=
  { State.reset with
    clock := ⟨7900000, 7900, 0⟩
    profiles := State.reset.profiles.set 0 (some cellProfile)
    plans := State.reset.plans.set 1 (some fullPlan) }

/-- The bench with bay 5 in a state. -/
def withBay (x : BayState) : State := bench.setBayState 5 x

/-- The example module's identity. -/
def moduleTag : Identity := Vector.replicate 12 0x5A

/-- The example's BAY_RUN, without auto-release. -/
def runRequest : RunRequest := ⟨5, 1, 0, 12, 64000, 1800, some moduleTag, false⟩

/-- A program in a phase, its rest reading and state of charge those of the example. -/
def programIn (x : Phase) : Program :=
  { request := runRequest, phase := x, identity := some moduleTag, rest := ⟨45720, 29, 34, 7890, 737⟩
    pulse := ⟨45468, 10000, 31, 2432, 1351⟩ }

/-- The bench with bay 5 running a program. -/
def running (p : Program) : State := withBay (.testing p)

/-- The bench with bay 5's conversion about to complete for a program that awaits it. -/
def measuring (p : Program) : State :=
  { running { p with awaiting := true } with arbiter :=
    { State.reset.arbiter with converter := .busy (.bay 5) 7900000, bayMarks := (Vector.replicate 16 false).set 5 true } }

/-- The bench with bay 5 drawing a derated drain's grant, its restore waiting. -/
def derated : State :=
  { running (programIn (.drainOn 7900250 7999000)) with
    load := { granted := (Vector.replicate 16 0).set 5 2500, derated := (Vector.replicate 16 none).set 5 (some 5000)
              starts := [7899000], queue := [⟨5, .restore 74, 5000⟩] } }

/-- A part in shelf watch. -/
def watching : State := bench.enterWatch

/-- A graded result of bay 5. -/
def gradedB : GradedResult where
  grade := .b
  identity := some moduleTag
  profile := 0
  cells := 12
  nameplate := 64000
  capacity := some ⟨56053, 875⟩
  resistance := 2432
  ratio := 1351
  flags := {}
  restVoltage := 42960
  restTime := 7890
  gradedTime := 7895
  origin := 5

/-- Record 11 of the example, at position 52. -/
def shelved : Record := { gradedB.record 52 with state := .available, restVoltage := 42961, restTime := 7800, sampled := true }

/-- The bench with record 11 at position 52, and the position in a state. -/
def onRack (x : Record) (y : PositionState) (present : Bool) : State :=
  (bench.setRecord 11 (some x)).setPosition 52 ⟨y, present, false⟩

/-- A slot's values. -/
def slotValues : SlotValues := ⟨some 56053, 2432, 42961, some moduleTag⟩

/-- String 2 with one slot of a record and the others picked. -/
def lastPick : StringEntry :=
  ⟨.picking, byCapacity, 7000, [.picked slotValues 1 7100, .reserved 11 slotValues, .picked slotValues 2 7200]⟩

/-- The bench with string 2 waiting for record 11 alone. -/
def almostBuilt : State := (onRack { shelved with state := .reserved 2 1 } (.held 11) true).setString 2 (some lastPick)

/-- R183: power-on leaves time at its start, the settings at their defaults, RESTART queued and row 0 selected. -/
theorem test_power_on : (after (.powerOn false) derated).map (fun t => (t.clock, t.settings, t.events, t.scanner)) =
    some (State.reset.clock, State.reset.settings, State.reset.events, State.reset.scanner) := by decide +kernel

theorem test_power_on_held : (after (.powerOn true) bench).map (fun t => (t.heldInReset, t.events.queue, t.clock.ms)) =
    some (true, [], 0) := by decide +kernel

/-- R182: FULL holds the part in full reset; the seconds counter stays at 0. -/
theorem test_reset_input_full : (after .resetInputAssertion bench).map
    (fun t => (t.resetInput, t.clock.seconds, t.profiles[0].isSome, t.events.queue)) =
    some (.heldFull .full, 0, false, []) := by decide +kernel

/-- R20: LINE releases an engaged bay and queues LINE_STOP. -/
theorem test_reset_input_line : (after .resetInputAssertion { withBay .engaged with
      settings := { Settings.defaults with resetLine := .line } }).map (fun t => ((t.bay 5).state, t.events.queue.drop 1)) =
    some (.releasing 7902000, [⟨7900, .lineStop⟩]) := by decide +kernel

theorem test_reset_input_release : (after .resetInputRelease (bench.holdReset .full)).map
    (fun t => (t.resetInput, t.events.queue, t.scanner.dwellTimer)) =
    some (.released, [⟨0, .restart .full⟩], some 7900020) := by decide +kernel

theorem test_status : replies (.status 9 []) (withBay .engaged) = some [⟨0x81, 9, .partStatus
    { family := 0, revision := 1, seconds := 7900, watch := false
      bays := [.empty, .empty, .empty, .empty, .empty, .engaged, .empty, .empty, .empty, .empty, .empty, .empty, .empty,
        .empty, .empty, .empty]
      records := 0, strings := List.replicate 6 .free, depth := 1, overflow := false }⟩] := by decide +kernel

theorem test_reset_full : (after (.resetFull 9 [0]) bench).map (fun t => (t.link.transmit, t.link.resetHold)) =
    some ([⟨0x82, 9, .plain .ok⟩], some .full) := by decide +kernel

theorem test_reset_line : (after (.resetLine 9 [1]) bench).map (fun t => (t.link.transmit, t.link.resetHold)) =
    some ([⟨0x82, 9, .plain .ok⟩], some .line) := by decide +kernel

/-- R180: a bus budget of 20,000 cA; R59: a derate threshold at the shutdown threshold is refused. -/
theorem test_setting_write : (after (.settingWrite 9 [4, 0x20, 0x4E, 0, 0]) bench).map
    (fun t => (t.link.transmit, t.settings.busBudget)) = some ([⟨0x83, 9, .setting 4 20000⟩], 20000) := by decide +kernel

theorem test_setting_write_refused : replies (.settingWrite 9 [6, 105, 0, 0, 0]) bench = some [⟨0x83, 9, .plain .range⟩] := by
  decide +kernel

theorem test_setting_read : replies (.settingRead 9 [13]) bench = some [⟨0x84, 9, .setting 13 43200⟩] := by decide +kernel

theorem test_events_take : (after (.eventsTake 9 [16]) bench).map (fun t => (t.link.transmit, t.events.queue)) =
    some ([⟨0x85, 9, .eventsTaken [⟨0, .restart .powerOn⟩] false 0⟩], []) := by decide +kernel

/-- R167: a class on both lists is enabled. -/
theorem test_event_classes : replies (.eventClasses 9 [0x01, 0x03]) bench =
    some [⟨0x86, 9, .classes ⟨true, false, true, true, true⟩⟩] := by decide +kernel

theorem test_watch_enter : (after (.watchEnter 9 []) (withBay .seated)).map
    (fun t => (t.link.transmit, t.scanner.mode, t.lamps.dark)) = some ([⟨0x87, 9, .plain .ok⟩], .watch, true) := by
  decide +kernel

theorem test_watch_enter_refused : replies (.watchEnter 9 []) (withBay .engaged) = some [⟨0x87, 9, .plain .state⟩] := by
  decide +kernel

theorem test_profile_load : (after (.profileLoad 9 (2 :: cellProfile.bytes)) bench).map
    (fun t => (t.link.transmit, t.profiles[2])) = some ([⟨0x90, 9, .plain .ok⟩], some cellProfile) := by decide +kernel

theorem test_profile_read : replies (.profileRead 9 [0]) bench = some [⟨0x91, 9, .profile cellProfile⟩] ∧
    replies (.profileRead 9 [1]) bench = some [⟨0x91, 9, .plain .absent⟩] := by decide +kernel

theorem test_plan_load : (after (.planLoad 9 (3 :: fullPlan.bytes)) bench).map
    (fun t => (t.link.transmit, t.plans[3])) = some ([⟨0x92, 9, .plain .ok⟩], some fullPlan) := by decide +kernel

theorem test_plan_in_use : replies (.planLoad 9 (1 :: fullPlan.bytes)) (running (programIn .pulseWait)) =
    some [⟨0x92, 9, .plain .inUse⟩] := by decide +kernel

theorem test_plan_read : replies (.planRead 9 [1]) bench = some [⟨0x93, 9, .plan fullPlan⟩] := by decide +kernel

theorem test_grade_limits : (after (.gradeLimits 9 (1 :: GradeLimits.bytes ⟨950, 850, 750, 1200, 1500, 1900⟩)) bench).map
    (fun t => t.limits) = some ⟨950, 850, 750, 1200, 1500, 1900⟩ := by decide +kernel

theorem test_grade_limits_read : replies (.gradeLimitsRead 9 [0]) bench =
    some [⟨0x94, 9, .limits ⟨900, 800, 700, 1300, 1600, 2000⟩⟩] := by decide +kernel

theorem test_bay_engage : (after (.bayEngage 9 [5]) (withBay .seated)).map (fun t => (t.link.transmit, (t.bay 5).state)) =
    some ([⟨0xA0, 9, .plain .ok⟩], .engaging 7900500) := by decide +kernel

theorem test_bay_run : (after (.bayRun 9 runRequest.bytes) (withBay .engaged)).map
    (fun t => (t.link.transmit, (t.bay 5).state)) =
    some ([⟨0xA1, 9, .plain .accepted⟩], .testing { request := runRequest, phase := .ident 7900500 false }) := by decide +kernel

theorem test_bay_run_absent : replies (.bayRun 9 (RunRequest.bytes { runRequest with plan := 2 })) (withBay .engaged) =
    some [⟨0xA1, 9, .plain .absent⟩] := by decide +kernel

theorem test_bay_abort : (after (.bayAbort 9 [5]) (running (programIn (.recover 7930000)))).map
    (fun t => (t.link.transmit, (t.bay 5).state, t.events.queue.drop 1)) =
    some ([⟨0xA2, 9, .plain .ok⟩], .engaged, [⟨7900, .testDone 5 .aborted none none none⟩]) := by decide +kernel

theorem test_bay_abort_in_pulse : (after (.bayAbort 9 [5]) (running (programIn (.pulseOn 7909500 7901000 false)))).map
    (fun t => (t.link.transmit, (t.bay 5).state)) =
    some ([⟨0xA2, 9, .plain .accepted⟩],
      .testing { programIn (.pulseOn 7909500 7901000 false) with abortPending := true }) := by decide +kernel

theorem test_bay_release : (after (.bayRelease 9 [5]) { withBay (.hold runRequest gradedB) with holdQueue := [5, 3] }).map
    (fun t => (t.link.transmit, (t.bay 5).state, t.holdQueue, t.events.queue.drop 1)) =
    some ([⟨0xA3, 9, .plain .ok⟩], .releasing 7902000, [3], [⟨7900, .resultDiscarded 5 .b⟩]) := by decide +kernel

theorem test_bay_query : replies (.bayQuery 9 [5]) (withBay (.faulted .heat)) = some [⟨0xA4, 9, .bay
    { state := .faulted, program := none, presence := false, clampClosed := false, cause := some .heat, request := none
      identity := none, heldGrade := none, lastResult := none, resultRole := .none }⟩] := by decide +kernel

/-- R17, R23: the request fields of a reply begin with the bay; the last result holds no identity. -/
theorem test_bay_query_bytes :
    (BayReport.bytes { state := .hold, program := none, presence := true, clampClosed := true, cause := none
                       request := some { runRequest with expected := none }, identity := none, heldGrade := some .b
                       lastResult := some ⟨.graded, some .b, {}, none, none, 7900⟩, resultRole := .bayPass }).take 18 =
      [5, 0, 1, 1, 0, 1, 5, 1, 0, 12, 0x00, 0xFA, 0, 0, 0x08, 0x07, 0, 0] := by decide +kernel

theorem test_pool_read : replies (.poolRead 9 [11]) (onRack shelved (.held 11) true) =
    some [⟨0xB0, 9, .record shelved⟩] := by decide +kernel

theorem test_pool_list : replies (.poolList 9 [0x02, 0]) (onRack shelved (.held 11) true) =
    some [⟨0xB1, 9, .recordList [shelved] none⟩] ∧
    replies (.poolList 9 [0x1D, 0]) (onRack shelved (.held 11) true) = some [⟨0xB1, 9, .recordList [] none⟩] := by
  decide +kernel

/-- R102: an import with neither capacity nor identity at an UNKNOWN position. -/
theorem test_pool_import : (after (.poolImport 9 ([52, 0, 0, 12] ++ bytes32 64000 ++ [1, 0, 0] ++ bytes16 2432 ++ bytes16 1351 ++
      [0] ++ bytes32 100 ++ bytes32 42960)) (bench.setPosition 52 ⟨.unknown, true, false⟩)).map
    (fun t => (t.link.transmit, (t.position 52).state, (t.record 0).map fun x => (x.state, x.flags.capAbsent, x.restTime))) =
    some ([⟨0xB2, 9, .imported 0 .held⟩], .held 0, some (.available, true, 7900)) := by decide +kernel

theorem test_pool_delete : (after (.poolDelete 9 [11]) (onRack shelved (.held 11) true)).map
    (fun t => (t.link.transmit, t.record 11, (t.position 52).state)) =
    some ([⟨0xB3, 9, .deleted 52 .unknown⟩], none, .unknown) := by decide +kernel

theorem test_pool_place : (after (.poolPlace 9 [11, 60]) ((onRack { shelved with state := .unshelved } (.assigned 11) false).setPosition
      60 ⟨.unknown, true, false⟩)).map
    (fun t => (t.link.transmit, (t.position 52).state, (t.position 60).state, (t.record 11).map fun x => (x.state, x.position))) =
    some ([⟨0xB4, 9, .plain .ok⟩], .free, .held 11, some (.available, 60)) := by decide +kernel

theorem test_position_read : replies (.positionRead 9 [52]) almostBuilt =
    some [⟨0xB5, 9, .position ⟨.held, some 11, true, false, some .nextPick⟩⟩] := by decide +kernel

theorem test_string_build_waits : replies (.stringBuild 9 byCapacity.bytes) bench =
    some [⟨0xC0, 9, .stringBuilt 0 .waiting []⟩] := by decide +kernel

theorem test_string_read : replies (.stringRead 9 [2]) almostBuilt = some [⟨0xC1, 9, .string (some
    { state := .picking, request := byCapacity, created := 7000
      slots := [⟨0, .picked slotValues 1 7100, none⟩, ⟨1, .reserved 11 slotValues, some 52⟩, ⟨2, .picked slotValues 2 7200, none⟩]
      pickedCount := 2, vacantCount := 0, nextPick := some 1 })⟩] := by decide +kernel

theorem test_string_cancel : (after (.stringCancel 9 [2]) almostBuilt).map
    (fun t => (t.string 2, (t.record 11).map fun x => x.state, t.link.transmit)) =
    some (none, some .available, [⟨0xC2, 9, .cancelled .picking
      [⟨0, .picked slotValues 1 7100, none⟩, ⟨2, .picked slotValues 2 7200, none⟩]⟩]) := by decide +kernel

theorem test_string_close_refused : replies (.stringClose 9 [2]) almostBuilt = some [⟨0xC3, 9, .plain .state⟩] := by
  decide +kernel

theorem test_string_close : (after (.stringClose 9 [0]) (bench.setString 0 (some
      ⟨.complete, byCapacity, 7000, [.picked slotValues 1 7100]⟩))).map (fun t => (t.string 0, t.link.transmit)) =
    some (none, [⟨0xC3, 9, .closed byCapacity 7000 [⟨0, .picked slotValues 1 7100, none⟩]⟩]) := by decide +kernel

theorem test_lamp_pattern : (after (.lampPattern 9 (3 :: 1 :: Pattern.bytes ⟨10, 20, 200, 100, 5, 6, .square⟩)) bench).map
    (fun t => (t.lamps.patterns[3], t.lamps.epochs[3])) = some (⟨10, 20, 200, 100, 5, 6, .square⟩, 7900000) := by decide +kernel

theorem test_lamp_pattern_read : replies (.lampPatternRead 9 [6, 0]) bench =
    some [⟨0xD0, 9, .pattern ⟨100, 900, 255, 0, 0, 0, .linear⟩⟩] := by decide +kernel

theorem test_lamp_roles : (after (.lampRoles 9 [1, 7, 6, 5, 4, 3, 2, 1, 0, 1, 2]) bench).map (fun t => t.lamps.roleMap) =
    some #v[7, 6, 5, 4, 3, 2, 1, 0, 1, 2] := by decide +kernel

theorem test_lamp_roles_read : replies (.lampRolesRead 9 [0]) bench =
    some [⟨0xD1, 9, .roleMap #v[4, 5, 2, 3, 6, 7, 1, 3, 2, 6]⟩] := by decide +kernel

theorem test_lamp_override : replies (.lampOverride 9 [52, 1, 3]) (bench.setOverride 52 (some 2)) =
    some [⟨0xD2, 9, .overridden 52 (some 2)⟩] := by decide +kernel

/-- R154, R156: bay 5's fault shows on lamp 245, by pattern 3, at full level 7,900 s after its epoch. -/
theorem test_lamp_override_read : replies (.lampOverrideRead 9 [245, 0]) (withBay (.faulted .heat)) =
    some [⟨0xD2, 9, .lamp ⟨some .bayFault, none, some 2, 255, 65025⟩⟩] := by decide +kernel

/-- R157, R173: 256 stands for every lamp. -/
theorem test_lamp_release : replies (.lampRelease 9 [0, 1]) (bench.setOverride 52 (some 2)) =
    some [⟨0xD3, 9, .released 1⟩] := by decide +kernel

theorem test_unknown_type : replies (.unknownType 0x08 9 []) bench = some [⟨0x88, 9, .plain .unknownType⟩] ∧
    replies (.unknownType 0x7F 9 []) bench = some [⟨0xFE, 9, .plain .unknownType⟩] := by decide +kernel

theorem test_frame_rejected_gap : (after .frameRejectedGap { bench with link := { receiver := Receiver.begun 7900000 } }).map
    (fun t => (t.link, t.clock.ms)) = some (⟨{}, [⟨0xFF, 0, .frameRejected .gap⟩], none⟩, 7900003) := by decide +kernel

theorem test_frame_rejected_size : replies (.frameRejectedSize 0x01 0x04) bench =
    some [⟨0xFF, 0, .frameRejected .size⟩] := by decide +kernel

theorem test_frame_rejected_check : replies (.frameRejectedCheck 0x01 9 [] 0) bench =
    some [⟨0xFF, 0, .frameRejected .check⟩] := by decide +kernel

/-- R181: the reset waits for its own reply, the last of the list. -/
theorem test_reply_sent : (after .replySent { bench with link := ⟨{}, [⟨0x81, 1, .plain .ok⟩, ⟨0x82, 2, .plain .ok⟩], some .full⟩ }).map
    (fun t => (t.link, t.clock.seconds)) = some (⟨{}, [⟨0x82, 2, .plain .ok⟩], some .full⟩, 7900) := by decide +kernel

theorem test_reply_sent_resets : (after .replySent { bench with link := ⟨{}, [⟨0x82, 2, .plain .ok⟩], some .full⟩ }).map
    (fun t => (t.link, t.clock.seconds, t.events.queue)) = some (⟨{}, [], none⟩, 0, [⟨0, .restart .full⟩]) := by decide +kernel

theorem test_bay_contact_change : (after (.bayContactChange 5 .presence true) bench).map (fun t => (t.bay 5).presence) =
    some ⟨true, false, some 7900030⟩ := by decide +kernel

/-- R3, R4: a presence arrival seats an EMPTY bay; a clamp that opens under a program faults it. -/
theorem test_debounce_expiry : queued (.debounceExpiry 5 .presence) (bench.setBay 5 { presence := ⟨true, false, some 7900030⟩ }) =
    some [⟨7900, .baySeated 5⟩] := by decide +kernel

theorem test_debounce_clamp_opens : (after (.debounceExpiry 5 .clampClosed) (bench.setBay 5
      { state := .engaged, clampClosed := ⟨false, true, some 7900030⟩ })).map (fun t => (t.bay 5).state) =
    some (.faulted .clampOpen) := by decide +kernel

theorem test_engage_settle : (after (.engageSettleExpiry 5) (bench.setBay 5
      { state := .engaging 7900500, clampClosed := ⟨true, true, none⟩ })).map (fun t => ((t.bay 5).state, t.clock.ms)) =
    some (.engaged, 7900500) := by decide +kernel

theorem test_release_guard : (after (.releaseGuardExpiry 5) (bench.setBay 5
      { state := .releasing 7902000, resultRole := .bayPass })).map (fun t => ((t.bay 5).state, (t.bay 5).resultRole)) =
    some (.empty, .none) := by decide +kernel

theorem test_tag_answer_kept : (after (.tagReaderAnswer 5 (some moduleTag)) (running { request := runRequest, phase := .ident 7900500 false })).map
    (fun t => (t.bay 5).state) = some (.testing { request := runRequest, phase := .ident 7900500 true, identity := some moduleTag }) := by
  decide +kernel

theorem test_read_timer : (after (.readTimerExpiry 5) (running (programIn (.ident 7900500 true)))).map (fun t => (t.bay 5).state) =
    some (.testing (programIn (.rest0 (some 7910500)))) := by decide +kernel

theorem test_read_timer_unread : (after (.readTimerExpiry 5) (running { request := runRequest, phase := .ident 7900500 false })).map
    (fun t => (t.bay 5).state) = some (.faulted .identUnread) := by decide +kernel

theorem test_rest_timer : (after (.restTimerExpiry 5) (running (programIn (.rest0 (some 7910500))))).map
    (fun t => (t.arbiter.converter, t.arbiter.bayMarks[5])) = some (.busy (.bay 5) 7910502, true) := by decide +kernel

/-- R46: bay 9's request found the converter free at this same moment; the search from bay 0 grants bay 5 first. -/
theorem test_rest_timer_pointer_order : (after (.restTimerExpiry 5) { running (programIn (.rest0 (some 7910500))) with
      clock := ⟨7910500, 7910, 500⟩
      arbiter := { State.reset.arbiter with
        converter := .busy (.bay 9) 7910502, askedAt := some 7910500, bayMarks := (Vector.replicate 16 false).set 9 true } }).map
    (fun t => (t.arbiter.converter, t.arbiter.bayMarks[5], t.arbiter.bayMarks[9])) = some (.busy (.bay 5) 7910502, true, true) := by
  decide +kernel

theorem test_cool_wait_timer : (after (.coolWaitTimerExpiry 5) (running (programIn (.coolWait 7901000)))).map
    (fun t => ((t.program 5).map fun p => (p.phase, p.awaiting))) = some (some (.coolWait 7902000, true)) := by decide +kernel

theorem test_monitor_timer : (after (.monitorTimerExpiry 5) (running (programIn (.pulseOn 7909500 7901000 false)))).map
    (fun t => ((t.program 5).map fun p => (p.phase, p.awaiting))) = some (some (.pulseOn 7909500 7902000 false, true)) := by
  decide +kernel

theorem test_duration_timer : (after (.durationTimerExpiry 5) (running (programIn (.pulseOn 7909500 7910000 true)))).map
    (fun t => ((t.program 5).map fun p => (p.phase, p.awaiting))) = some (some (.endWait true true, true)) := by decide +kernel

/-- R33, R34: the drain's start is granted at once on an idle bus, and its timers run from the grant. -/
theorem test_recovery_timer : (after (.recoveryTimerExpiry 5) (running (programIn (.recover 7930000)))).map
    (fun t => ((t.program 5).map Program.phase, t.load.granted[5], t.load.starts)) =
    some (some (.drainOn 7930250 11530000), 5000, [7930000]) := by decide +kernel

theorem test_sample_timer_overrun : (after (.sampleTimerExpiry 5) { running { programIn (.drainOn 7900250 7999000) with overruns := 40 } with
      arbiter := { State.reset.arbiter with converter := .busy (.bay 5) 7900251, bayMarks := (Vector.replicate 16 false).set 5 true } }).map
    (fun t => (t.program 5).map fun p => (p.phase, p.overruns, p.overrunsSince, p.flags.sparse)) =
    some (some (.drainOn 7900500 7999000, 41, 1, true)) := by decide +kernel

theorem test_time_limit : (after (.timeLimitExpiry 5) (running (programIn (.drainOn 7900250 7901000)))).map
    (fun t => (t.program 5).map fun p => (p.phase, p.flags.timeLimited)) = some (some (.settle (some 7961000), true)) := by
  decide +kernel

theorem test_settle_timer : (after (.settleTimerExpiry 5) (running (programIn (.settle (some 7960000))))).map
    (fun t => (t.program 5).map fun p => (p.phase, p.awaiting)) = some (some (.settle none, true)) := by decide +kernel

/-- 02_the_test_program.md's example at 20,004 ms: the pulse's end conversion, its resistance figures and RECOVER. -/
theorem test_end_conversion : (after (.conversionComplete 45468 10000 31 41) (measuring
      { programIn (.endWait true true) with pulse := {} })).map (fun t => (t.program 5).map fun p => (p.phase, p.pulse)) =
    some (some (.recover 7930000, ⟨45468, 10000, 31, 2432, 1351⟩)) := by decide +kernel

/-- The same example's third settle reading: stable, V1 = 42,960 mV, and the graded record. -/
theorem test_settle_conversion : (after (.conversionComplete 42960 0 30 35) (measuring
      { programIn (.settle none) with charge := 36000000, settleCount := 2, settleLatest := some ⟨42938, 7840⟩ })).map
    (fun t => (t.record 0).map fun x => (x.grade, x.capacity, x.restVoltage, x.restTime)) =
    some (some (.b, some ⟨56053, 875⟩, 42960, 7900)) := by decide +kernel

/-- 03_conversions_and_the_load_bus.md's example at 10,000 ms: the start at 0 ages out, bay 13 and then bay 2's restore are granted. -/
theorem test_aging_timer : (after .agingTimerExpiry { State.reset with
      clock := ⟨8000, 8, 0⟩
      settings := { Settings.defaults with busBudget := 20000, startWindow := 10000 }
      load := { granted := #v[0, 0, 3000, 0, 0, 0, 0, 0, 4000, 0, 0, 5000, 0, 0, 0, 0]
                derated := (Vector.replicate 16 none).set 2 (some 6000)
                starts := [0, 1000, 2000, 4000]
                queue := [⟨13, .drainStart, 1500⟩, ⟨2, .restore 74, 6000⟩] } }).map (fun t => (t.load, t.events.queue.drop 1)) =
    some ({ granted := #v[0, 0, 6000, 0, 0, 0, 0, 0, 4000, 0, 0, 5000, 0, 1500, 0, 0]
            derated := Vector.replicate 16 none
            starts := [1000, 2000, 4000, 10000]
            queue := [] }, [⟨10, .derateOff 2 6000 74⟩]) := by decide +kernel

/-- R108: a contact that first differs sets its mark; the visit ends and row 1 is selected. -/
theorem test_dwell_timer : (after (.dwellTimerExpiry 0x000010) bench).map
    (fun t => (t.position 4, t.scanner.row, t.scanner.dwellTimer)) = some (⟨.free, false, true⟩, 1, some 7900020) := by
  decide +kernel

/-- R92, R135, R136: the confirmed removal of a string's last module completes the string. -/
theorem test_dwell_confirms_pick : queued (.dwellTimerExpiry 0) ({ almostBuilt with
      scanner := { State.reset.scanner with row := 2 } }.setPosition 52 ⟨.held 11, true, true⟩) =
    some [⟨7900, .slotPicked 2 1 3 52⟩, ⟨7900, .stringComplete 2 3⟩] := by decide +kernel

theorem test_watch_timer : (after .watchTimerExpiry { watching with scanner := { watching.scanner with
      row := 0, stage := .betweenPasses, dwellTimer := none, watchTimer := some 9700000 } }).map
    (fun t => (t.scanner.stage, t.scanner.passStart, t.scanner.dwellTimer)) = some (.dwell, 9700000, some 9700020) := by
  decide +kernel

theorem test_pulse_timer : (after .pulseTimerExpiry { bench with events := { bench.events with pulseTimer := some 7900001 } }).map
    (fun t => t.events.pulseTimer) = some none := by decide +kernel

theorem test_sync_byte : (after .syncByte bench).map (fun t => t.link.receiver) = some ⟨.length, [0xC3], some 7900003⟩ := by
  decide +kernel

/-! ## States and operands that meet the hypotheses of each statement -/

/-- Every queue at its bound. -/
def fullQueues : State :=
  { State.reset with
    events := { State.reset.events with queue := List.replicate 64 ⟨0, .lineStop⟩ }
    link := ⟨{}, List.replicate 16 ⟨0x81, 0, .plain .ok⟩, none⟩
    load := { State.reset.load with starts := [0, 0, 0, 0], granted := (Vector.replicate 16 0).set 15 30000 } }

/-- The clock a millisecond before the top of the seconds counter. -/
def lateClock : State := { State.reset with clock := ⟨7, 4294967294, 999⟩ }

theorem test_meets_time_passes :
    lateClock.pending = [] ∧ lateClock.heldInReset = false ∧ bench.clock.intoSecond < 999 ∧ lateClock.clock.intoSecond = 999 ∧
      lateClock.clock.intoSecond < 1000 ∧ lateClock.clock.seconds + 1 < 2 ^ 32 ∧
      lateClock.clock.seconds + (1006 - lateClock.clock.ms) / 1000 + 1 < 2 ^ 32 := by decide

theorem test_meets_bounds : fullQueues.Bounded ∧ fullQueues.load.grantedSum = fullQueues.settings.busBudget ∧ watching.Bounded ∧
    step fullQueues = .next (fullQueues.elapse 1) :=
  ⟨⟨by decide, by decide, by decide, by decide +kernel, by decide⟩, by decide +kernel, ⟨by decide, by decide, by decide, by decide, by decide⟩, rfl⟩

theorem test_meets_pairing : (onRack shelved (.held 11) true).Paired ∧
    step (onRack shelved (.held 11) true) = .next ((onRack shelved (.held 11) true).elapse 1) := by
  have hr (r : RecordNo) : (onRack shelved (.held 11) true).record r = if r = 11 then some shelved else none := by
    revert r; decide +kernel
  have hp (p : PositionNo) : ((onRack shelved (.held 11) true).position p).state.bound = if p = 52 then some 11 else none := by
    revert p; decide +kernel
  refine ⟨⟨fun r p => ?_, fun r x h => ?_⟩, rfl⟩
  · rw [hr, hp]
    clear hr hp
    by_cases h1 : r = 11 <;> by_cases h2 : p = 52 <;> simp [h1, h2, shelved, GradedResult.record] <;> tauto
  · rw [hr] at h
    by_cases h1 : r = 11
    · rw [if_pos h1] at h; cases h; subst h1; decide +kernel
    · rw [if_neg h1] at h; cases h

theorem test_meets_reset_input :
    bench.resetInput = .released ∧ bench.settings.resetLine = .full ∧
      (let s := { watching with settings := { Settings.defaults with resetLine := .line }
                                events := { watching.events with queue := List.replicate 47 ⟨0, .lineStop⟩ } }
       s.resetInput = .released ∧ s.settings.resetLine = .line ∧ s.scanner.mode = .watch ∧ s.events.enables.system = true ∧
         s.events.enables.bay = true ∧ s.events.queue.length + 17 = 64) ∧
      (bench.holdReset .powerOn).resetInput = .heldFull .powerOn ∧ (bench.setResetInput .heldLine).resetInput = .heldLine := by
  decide

theorem test_meets_held_reset : (∀ x, Instr.status 9 [] ≠ .powerOn x) ∧ Instr.status 9 [] ≠ .resetInputRelease := by
  exact ⟨fun x => by simp, by simp⟩

theorem test_meets_reset_request : bench.attending ∧
    (bench.setLink ⟨{}, [⟨0x81, 1, .plain .ok⟩, ⟨0x82, 2, .plain .ok⟩], some .full⟩).link.transmit =
      ⟨0x81, 1, .plain .ok⟩ :: [⟨0x82, 2, .plain .ok⟩] ∧
    (bench.setLink ⟨{}, [⟨0x82, 2, .plain .ok⟩], some .line⟩).link.resetHold = some .line ∧
    (let s := { watching with link := ⟨{}, [⟨0x82, 2, .plain .ok⟩], some .line⟩
                              scanner := { watching.scanner with stage := .betweenPasses } }
     s.link.transmit = [⟨0x82, 2, .plain .ok⟩] ∧ s.link.resetHold = some .line ∧ s.scanner.mode = .watch ∧
       s.scanner.stage = .betweenPasses ∧ s.events.enables.system = true ∧ s.events.enables.bay = true ∧
       s.events.queue.length + 17 ≤ 64) := by decide

/-- R123: a line stop in shelf watch between passes selects row 0 at once, and queues LINE_STOP and no WOKEN. -/
theorem test_line_stop_between_passes : (after .replySent { watching with
    link := ⟨{}, [⟨0x82, 2, .plain .ok⟩], some .line⟩
    scanner := { watching.scanner with stage := .betweenPasses, dwellTimer := none, watchTimer := some 9700000 } }).map
      (fun t => (t.scanner.mode, t.scanner.stage, t.scanner.dwellTimer, t.events.queue.drop 1)) =
    some (.active, .dwell, some 7900020, [⟨7900, .lineStop⟩]) := by decide +kernel

theorem test_meets_frame : bench.attending ∧ (Instr.status 9 []).frame = some (0x01, 9, []) ∧
    (Instr.unknownType 0x7F 9 []).frame = some (0x7F, 9, []) ∧ bench.heldInReset = false ∧
    (bench.setLink ⟨{}, [], some .full⟩).deaf ∧ fullQueues.heldInReset = false ∧ fullQueues.deaf ∧
    1024 < (0x01 : Byte).toNat + 256 * (0x04 : Byte).toNat := by decide

theorem test_meets_watch_frame : (Instr.status 9 []).frame = some (0x01, 9, []) ∧ watching.listening ∧
    watching.scanner.mode = .watch ∧ watching.scanner.stage ≠ .betweenPasses ∧ bench.scanner.mode = .active ∧
    (let s := { watching with scanner := { watching.scanner with stage := .betweenPasses } }
     s.scanner.mode = .watch ∧ s.scanner.stage = .betweenPasses) := by decide

theorem test_meets_malformed : (0x54 : Byte) ∉ messageTypes ∧ (0x14, [1, 13]) ∈ bodyLengths ∧ [1, 0].length ∉ [1, 13] ∧
    (Instr.gradeLimits 9 [1, 0]).frame = some (0x14, 9, [1, 0]) ∧ (0x20, 16) ∈ numberTypes ∧ 16 ≤ (16 : Byte).toNat ∧
    (Instr.bayEngage 9 [16]).frame = some (0x20, 9, [16]) := by decide

theorem test_meets_rejected : bench.listening ∧
    (bench.setLink { receiver := Receiver.begun 7900000 }).link.receiver.gapTimer = some 7900003 ∧
    (List.replicate 1024 (0 : Byte)).length ≤ 1024 ∧ crc16 (checkedBytes 0x01 9 []) ≠ 0 := by decide +kernel

/-- The bench with a frame under assembly. -/
def hearing (stage : ReceiveStage) (frame : List Byte) : State := bench.setLink { receiver := ⟨stage, frame, some 7900003⟩ }

theorem test_meets_sync : bench.heldInReset = false ∧ bench.link.receiver.stage = .hunt ∧
    ([hearing .length [0xC3], hearing .length [0xC3, 0], hearing .header [0xC3, 0, 0], hearing .header [0xC3, 1, 0, 1],
      hearing .header [0xC3, 0, 0, 1]].map fun s =>
        let frame := s.link.receiver.frame ++ [0xC3]
        (s.link.receiver.stage, frame.length, frameLength frame)) =
      [(.length, 2, 195), (.length, 3, 49920), (.header, 4, 0), (.header, 5, 1), (.header, 5, 0)] ∧
    ([hearing .body [0xC3, 2, 0, 1, 9], hearing .body [0xC3, 1, 0, 1, 9], hearing .check [0xC3, 0, 0, 1, 9]].map fun s =>
        let frame := s.link.receiver.frame ++ [0xC3]
        (s.link.receiver.stage, frame.length, frameLength frame)) =
      [(.body, 6, 2), (.body, 6, 1), (.check, 6, 0)] ∧
    (hearing .check [0xC3, 0, 0, 1, 37, 54]).link.receiver.frame ++ [0xC3] = frameBytes 0x01 37 [] ∧
    (hearing .check [0xC3, 0, 0, 1, 37, 55]).link.receiver.frame ++ [0xC3] =
      0xC3 :: checkedBytes 0x01 37 [] ++ bytes16 (0xC337 : BitVec 16).toNat ∧ crc16 (checkedBytes 0x01 37 []) ≠ 0xC337 := by
  decide +kernel

/-- Values at the ends of the items' ranges, and just outside them. -/
theorem test_meets_setting :
    bench.attending ∧ itemAt [0] = none ∧ itemAt [18] = none ∧ itemAt [255] = none ∧ itemAt [17] = some 17 ∧ ([(1, 5), (1, 200), (6, 104), (8, 120), (10, 60), (10, 600), (14, 9999), (15, 2001), (16, 1), (17, 0)].map fun x =>
        (bench.settings.permits x.1 x.2, bench.locks x.1 x.2)) = List.replicate 10 (true, false) ∧
      ([(1, 4), (1, 201), (6, 105), (8, 121), (10, 59), (10, 601), (14, 10000), (15, 2000), (16, 2), (17, 2)].map fun x =>
        bench.settings.permits x.1 x.2) = List.replicate 10 false ∧
      derated.attending ∧ derated.settings.permits 4 2499 = true ∧ derated.locks 4 2499 = true ∧ derated.locks 4 2500 = false ∧
      derated.settings.permits 5 500 = true ∧ derated.locks 5 500 = true ∧ bench.locks 5 500 = false := by decide +kernel

theorem test_meets_take : bench.attending ∧ 1 ≤ (16 : Byte).toNat ∧ (16 : Byte).toNat ≤ 16 ∧ ¬(17 : Byte).toNat ≤ 16 ∧
    bench.settings.attention = .level ∧ bench.events.queue.length = (1 : Byte).toNat ∧ watching.listening ∧
    watching.scanner.mode = .watch ∧ watching.events.enables.system = true ∧ watching.events.queue.length < 64 := by decide

theorem test_meets_classes_and_events : bench.attending ∧ (31 : Byte).toNat < 32 ∧ 32 ≤ (32 : Byte).toNat ∧
    bench.events.enables.allows (Happening.lineStop).cls = true ∧ bench.events.queue.length < 64 ∧
    64 ≤ fullQueues.events.queue.length ∧ fullQueues.events.enables.allows (Happening.lineStop).cls = true ∧
    (ClassEnables.allows { system := false } (Happening.lineStop).cls) = false := by decide

theorem test_meets_watch : bench.attending ∧ (∀ b, (bench.bay b).state = .empty ∨ (bench.bay b).state = .seated) ∧
    (withBay .engaged).attending ∧ ((withBay .engaged).bay 5).state = .engaged := by decide +kernel

/-- A profile at the ends of its ranges. -/
def widestProfile : Profile :=
  ⟨#v[2000, 2001, 2002, 2003, 2004, 2005, 2006, 2007, 2008, 2009, 2010, 2011, 2012, 2013, 2014, 2015, 2016, 2017, 2018, 2019,
      4600], 200⟩

theorem test_meets_profile : bench.attending ∧ (∀ b ∈ widestProfile.breakpoints.toList, b < 65536) ∧
    widestProfile.coefficient < 256 ∧
    ((∀ i : Fin 21, 2000 ≤ widestProfile.breakpoints[i] ∧ widestProfile.breakpoints[i] ≤ 4600) ∧
      (∀ i : Fin 20, widestProfile.breakpoints[i.castSucc] < widestProfile.breakpoints[i.succ]) ∧ widestProfile.coefficient ≤ 200) ∧
    widestProfile.valid = true ∧ { widestProfile with coefficient := 201 }.valid = false ∧
    ((running (programIn .pulseWait)).bay 5).state = .testing (programIn .pulseWait) ∧
    (programIn .pulseWait).request.profile = 0 ∧ bench.profileInUse 0 = false ∧ bench.profiles[1] = none := by decide +kernel

/-- Plans at the ends of every range. -/
def leastPlan : Plan := ⟨1000, 100, 1000, 1000, false, 100, 50, 2000, 60, 10, 1, -20, 0⟩
def greatestPlan : Plan := ⟨60000, 30000, 30000, 120000, true, 30000, 800, 4000, 14400, 600, 20, 40, 60⟩

theorem test_meets_plan : bench.attending ∧ leastPlan.valid = true ∧ greatestPlan.valid = true ∧
    { leastPlan with windowLow := -21 }.valid = false ∧ { greatestPlan with restTime := 60001 }.valid = false ∧
    bench.planInUse 1 = false ∧ ((running (programIn .pulseWait)).bay 5).state = .testing (programIn .pulseWait) ∧
    (programIn .pulseWait).request.plan = 1 ∧ (running (programIn .pulseWait)).attending := by decide +kernel

theorem test_meets_limits : bench.attending ∧ GradeLimits.valid ⟨1200, 1200, 1, 1, 9999, 9999⟩ = true ∧
    GradeLimits.valid ⟨1200, 1200, 0, 1, 9999, 9999⟩ = false := by decide

theorem test_meets_bodies :
    (let q : RunRequest := { runRequest with bay := 15, cells := 24, nameplate := 1000000, nominal := 65535 }
     bayRunFields q.bytes = .ok q) ∧
    (let q : StringRequest := ⟨3, 24, 20, .resistance, 100000, 10000, 5000, .c⟩
     stringBuildFields q.bytes = .ok q) ∧
    (let p : Pattern := ⟨10000, 0, 255, 255, 5000, 5000, .square⟩
     p.valid = true ∧ lampPatternFields (7 :: 1 :: p.bytes) = .ok (7, some p)) := by decide +kernel

/-- R102, R173: an import with every field at the top of its range, its bytes written out. -/
theorem test_import_fields : poolImportFields ([239, 1] ++ List.replicate 12 0x5A ++ [3, 24, 0x40, 0x42, 0x0F, 0, 0, 1, 0x40, 0x42,
      0x0F, 0, 1, 0xB0, 0x04, 0xFF, 0xFF, 0x0F, 0x27, 0x16, 0xFF, 0xFF, 0xFF, 0xFF, 0xC0, 0xD4, 0x01, 0]) =
    .ok ⟨239, some moduleTag, 3, 24, 1000000, .a, some ⟨1000000, 1200⟩, 65535, 9999,
      { sparse := true, unsettled := true, downgraded := true, imported := true }, 4294967295, 120000⟩ := by decide +kernel

theorem test_meets_clamp : (withBay .seated).attending ∧ ((withBay .seated).bay 5).state = .seated ∧
    (withBay (.hold runRequest gradedB)).attending ∧ bench.attending ∧ (bench.bay 5).state ≠ .seated ∧
    ((withBay (.engaging 7900500)).bay 5).state = .engaging 7900500 ∧
    ((withBay (.engaging 7900500)).bay 5).clampClosed.debounced = false ∧
    ((withBay (.releasing 7902000)).bay 5).state = .releasing 7902000 ∧
    ((withBay (.releasing 7902000)).bay 5).presence.debounced = false ∧
    (let s := bench.setBay 5 { state := .engaging 7900500, presence := ⟨true, true, none⟩, clampClosed := ⟨true, true, none⟩ }
     (s.bay 5).state = .engaging 7900500 ∧ (s.bay 5).clampClosed.debounced = true) ∧
    (let s := bench.setBay 5 { state := .releasing 7902000, presence := ⟨true, true, none⟩ }
     (s.bay 5).state = .releasing 7902000 ∧ (s.bay 5).presence.debounced = true) := by decide +kernel

theorem test_meets_abort : bench.attending ∧ bench.program 5 = none ∧
    (running (programIn .pulseWait)).program 5 = some (programIn .pulseWait) ∧ (programIn .pulseWait).phase.pulsing = false ∧
    (running (programIn .pulseWait)).load.granted[5] = 0 ∧ (∀ e ∈ (running (programIn .pulseWait)).load.queue, e.bay ≠ 5) ∧
    (programIn (.endWait true false)).phase.pulsing = true ∧ derated.attending ∧ derated.load.granted[5] ≠ 0 ∧
    (∀ e ∈ derated.load.queue, e.bay = 5 → e.isRestore = true) ∧
    derated.program 5 = some (programIn (.drainOn 7900250 7999000)) ∧ (programIn (.drainOn 7900250 7999000)).phase.pulsing = false ∧
    (let s := { running (programIn .pulseWait) with load := { State.reset.load with queue := [⟨5, .pulseStart, 10000⟩] } }
     s.attending ∧ s.program 5 = some (programIn .pulseWait) ∧ s.load.granted[5] = 0 ∧ ∃ e ∈ s.load.queue, e.bay = 5) := by
  decide +kernel

/-- R8: an abort of a drain with its load on gives up the grant and the restore, and the program ends as ABORTED. -/
theorem test_bay_abort_in_drain : (after (.bayAbort 9 [5]) derated).map
    (fun t => (t.link.transmit, t.load.granted[5], t.load.queue, t.events.queue.drop 1)) =
    some ([⟨0xA2, 9, .plain .ok⟩], 0, [], [⟨7900, .testDone 5 .aborted none none none⟩]) := by decide +kernel

theorem test_meets_contacts : bench.heldInReset = false ∧ (bench.bay 5).presence.raw ≠ true ∧ (bench.bay 5).clampClosed.raw ≠ true ∧
    (let s := bench.setBay 5 { presence := ⟨true, false, some 7900030⟩, clampClosed := ⟨true, false, some 7900030⟩ }
     (s.bay 5).presence = ⟨true, false, some 7900030⟩ ∧ (s.bay 5).clampClosed = ⟨true, false, some 7900030⟩ ∧
       (s.bay 5).state = .empty) ∧
    (let s := bench.setBay 5 { state := .releasing 7902000, presence := ⟨true, false, some 7900030⟩ }
     (s.bay 5).presence = ⟨true, false, some 7900030⟩ ∧ (s.bay 5).state ≠ .empty) ∧
    (let s := bench.setBay 5 { state := .engaged, presence := ⟨false, true, some 7900030⟩, clampClosed := ⟨false, true, some 7900030⟩ }
     (s.bay 5).presence = ⟨false, true, some 7900030⟩ ∧ (s.bay 5).clampClosed = ⟨false, true, some 7900030⟩ ∧
       (s.bay 5).state = .engaged) := by decide +kernel

theorem test_meets_fault : ((withBay (.faulted .heat)).bay 5).state = .faulted .heat ∧
    (derated.bay 5).state = .testing (programIn (.drainOn 7900250 7999000)) ∧
    (∀ e ∈ derated.load.queue, e.bay = 5 → e.isRestore = true) ∧
    ((withBay (.hold runRequest gradedB)).bay 5).state = .hold runRequest gradedB ∧
    (withBay (.hold runRequest gradedB)).load.granted[5] = 0 := by decide +kernel

/-- R14, R163: BAY_FAULT stands before the TEST_DONE, or the RESULT_DISCARDED, of the same fault. -/
theorem test_fault_events : (derated.faultBay 5 .heat).events.queue.drop 1 =
      [⟨7900, .bayFault 5 .heat⟩, ⟨7900, .testDone 5 .faulted none none none⟩] ∧
    ((withBay (.hold runRequest gradedB)).faultBay 5 .clampOpen).events.queue.drop 1 =
      [⟨7900, .bayFault 5 .clampOpen⟩, ⟨7900, .resultDiscarded 5 .b⟩] := by decide +kernel

/-- R1, R25: the outputs of bay 5 by its state and phase. -/
theorem test_bay_outputs : (derated.clampCommand 5, derated.loadCurrent 5, derated.tagRequest 5) = (true, 2500, false) ∧
    (let s := running (programIn (.ident 7900500 false)); (s.clampCommand 5, s.loadCurrent 5, s.tagRequest 5) = (true, 0, true)) ∧
    (running (programIn (.ident 7900500 true))).tagRequest 5 = false ∧ (withBay (.releasing 7902000)).clampCommand 5 = false ∧
    (withBay (.faulted .heat)).clampCommand 5 = true ∧ (withBay .seated).clampCommand 5 = false := by decide +kernel

theorem test_meets_phases :
    [Phase.ident 7900500 false, .rest0 (some 7910500), .settle (some 7960000), .coolWait 7901000,
      .pulseOn 7909500 7901000 false, .recover 7930000, .drainOn 7900250 7999000].map
      (fun x => (running (programIn x)).program 5) =
    [Phase.ident 7900500 false, .rest0 (some 7910500), .settle (some 7960000), .coolWait 7901000,
      .pulseOn 7909500 7901000 false, .recover 7930000, .drainOn 7900250 7999000].map (fun x => some (programIn x)) := by
  decide +kernel

/-- A program of a plan without a drain, with a resistance ratio. -/
def undrained (ratio : Nat) : Program :=
  { programIn (.recover 7930000) with pulse := { (programIn (.recover 7930000)).pulse with ratio := ratio } }

/-- The bench with an unknown module at every position. -/
def fullRack : State := { bench with positions := Vector.replicate 240 ⟨.unknown, true, false⟩ }

theorem test_meets_verdict :
    ((undrained 2001).grade 5 cellProfile bench.limits none 7900).grade = .r ∧
    ((undrained 2000).grade 5 cellProfile bench.limits none 7900).grade ≠ .r ∧
    bench.profileOf (undrained 2000).request = cellProfile ∧ (∀ q, (fullRack.position q).state ≠ .free) ∧
    bench.record 0 = none ∧ (bench.position 0).state = .free ∧
    (let s := (bench.setRecord 0 (some shelved)).setPosition 0 ⟨.held 0, true, false⟩
     s.record 1 = none ∧ (∀ i, i < 1 → s.record i ≠ none) ∧ (s.position 1).state = .free ∧
       ∀ i, i < 1 → (s.position i).state ≠ .free) := by decide +kernel

theorem test_meets_discarded_record :
    (measuring (programIn (.rest0 none))).arbiter.converter = .busy (.bay 5) 7900000 ∧
    ({ measuring (programIn (.rest0 none)) with bays := (withBay .engaged).bays }).program 5 = none ∧
    (∀ p, ({ measuring (programIn (.rest0 none)) with bays := (withBay .engaged).bays }).program 5 = some p → p.awaiting = false) := by
  refine ⟨by decide, by decide +kernel, fun p h => ?_⟩
  have : ({ measuring (programIn (.rest0 none)) with bays := (withBay .engaged).bays }).program 5 = none := by decide +kernel
  rw [this] at h; cases h

theorem test_meets_rest_reading :
    (measuring (programIn (.rest0 none))).arbiter.converter = .busy (.bay 5) 7900000 ∧
    (measuring (programIn (.rest0 none))).program 5 = some { programIn (.rest0 none) with awaiting := true } ∧
    (measuring (programIn (.rest0 none))).load.granted[5] = 0 ∧
    (∀ e ∈ (measuring (programIn (.rest0 none))).load.queue, e.bay ≠ 5) ∧
    (bench.settings.shutdown : Int) ≤ 105 ∧ (104 : Int) < bench.settings.shutdown ∧ (bench.settings.derate : Int) ≤ 85 ∧
    bench.planOf runRequest = fullPlan ∧ bench.profileOf runRequest = cellProfile ∧
    35999 / 12 < cellProfile.breakpoints[0] ∧ cellProfile.breakpoints[0] ≤ 36000 / 12 ∧
    cellProfile.breakpoints[20] + 50 < 50412 / 12 ∧ 50411 / 12 ≤ cellProfile.breakpoints[20] + 50 ∧
    (9 : Int) < fullPlan.windowLow ∧ fullPlan.windowLow ≤ 10 ∧ (45 : Int) ≤ fullPlan.windowHigh ∧ fullPlan.windowHigh < 46 ∧
    (let s := { measuring (programIn (.rest0 none)) with load := { State.reset.load with queue := [⟨6, .drainStart, 9000⟩] } }
     s.program 5 = some { programIn (.rest0 none) with awaiting := true } ∧ s.load.granted[5] = 0 ∧
       (∀ e ∈ s.load.queue, e.bay ≠ 5) ∧ s.load.queue ≠ [] ∧ (84 : Int) < s.settings.derate) ∧
    (measuring (programIn (.rest0 none))).load.queue = [] ∧ fullPlan.pulseCurrent = 10000 := by decide +kernel

/-- The bench with bay 5's rest conversion about to complete, under a bus budget and with starts counted. -/
def restUnder (budget : Nat) (starts : List Moment) : State :=
  { measuring (programIn (.rest0 none)) with
    settings := { Settings.defaults with busBudget := budget }
    load := { State.reset.load with starts := starts } }

/-- R28, R53, R55: in an empty grant queue the start request is granted at once where the pulse current is within the budget and
fewer than four starts are counted, and waits otherwise. -/
theorem test_rest_reading_asks :
    ([restUnder 10000 [7899000, 7899000, 7899000], restUnder 9999 [], restUnder 10000 [7899000, 7899000, 7899000, 7899000]].map fun s =>
      (after (.conversionComplete 45720 0 29 84) s).map fun t =>
        ((t.program 5).map (fun p => p.phase), t.load.granted[5], t.load.queue.length, t.load.starts.length)) =
    [some (some (.pulseOn 7909500 7901000 false), 10000, 0, 4), some (some .pulseWait, 0, 1, 0),
      some (some .pulseWait, 0, 1, 4)] := by decide +kernel

/-- That bay 5's conversion is about to complete for a program that awaits it. -/
abbrev measures (p : Program) : Prop :=
  (measuring p).arbiter.converter = .busy (.bay 5) 7900000 ∧ (measuring p).program 5 = some { p with awaiting := true }

theorem test_meets_pulse_readings :
    measures (programIn (.endWait true true)) ∧
    (∀ e ∈ (measuring (programIn (.endWait true true))).load.queue, e.bay ≠ 5) ∧ measures (programIn (.coolWait 7901000)) ∧
    measures (programIn (.pulseOn 7909500 7901000 false)) ∧ measures (programIn (.pulseOn 7909500 7901000 true)) ∧
    measures (programIn (.endWait false false)) ∧ measures (programIn (.endWait true false)) ∧
    bench.settings.shutdown = 105 ∧ bench.settings.derate = 85 ∧ 4999 * 2 < (bench.planOf runRequest).pulseCurrent ∧
    (bench.planOf runRequest).pulseCurrent ≤ 5000 * 2 := by decide +kernel

/-- A heatsink of 104 degrees is below the shutdown threshold; the plan's window ends at 45; its drain target is 1,152,000,000 / 1,000
counts and its floor 3,450 mV per cell; its stability band is 2 mV per cell. -/
theorem test_meets_drain_readings :
    measures (programIn (.drainOn 7900250 7999000)) ∧ bench.settings.shutdown = 105 ∧
    (55 : Int) ≤ (bench.planOf runRequest).windowHigh + 10 ∧ (bench.planOf runRequest).windowHigh + 10 < 56 ∧
    runRequest.nameplate * (bench.planOf runRequest).drainDepth * 1440 ≤ 46080000 * 1000 ∧
    ¬ runRequest.nameplate * (bench.planOf runRequest).drainDepth * 1440 ≤ 46079999 * 1000 ∧
    41399 / runRequest.cells < (bench.planOf runRequest).floorVoltage ∧
    ¬ 41400 / runRequest.cells < (bench.planOf runRequest).floorVoltage ∧
    measures { programIn (.settle none) with settleCount := 1, settleLatest := some ⟨42960, 7840⟩ } ∧
    measures { programIn (.settle none) with settleCount := 5, settleLatest := some ⟨42960, 7840⟩ } ∧
    42960 ≤ 42936 + (bench.planOf runRequest).stabilityBand * runRequest.cells ∧
    ¬ 42960 ≤ 42935 + (bench.planOf runRequest).stabilityBand * runRequest.cells := by decide +kernel

theorem test_meets_arbiter :
    (let a := { State.reset.arbiter with bayMarks := (Vector.replicate 16 false).set 5 true, rackMark := some 52, pointer := .bay 6 }
     a.converter = .free ∧ a.marked (.bay 5) = true ∧ a.marked .rack = true ∧
       (a.grantNext 7900000).converter = .busy .rack 7900002 ∧ (a.grantNext 7900000).askedAt ≠ some 7900000) ∧
    State.reset.arbiter.converter = .free ∧ (∀ b, State.reset.arbiter.marked (.bay b) = false) ∧
    State.reset.arbiter.marked .rack = false ∧
    ((State.reset.arbiter.askBay 3 7900000).askBay 1 7900000).converter = .busy (.bay 1) 7900002 ∧
    ((State.reset.arbiter.askBay 3 7900000).askBay 1 7900001).converter = .busy (.bay 3) 7900002 := by decide

theorem test_meets_examination : derated.withinBudget ∧ derated.load.starts.length ≤ 4 ∧
    (let s := { derated with settings := { Settings.defaults with busBudget := 4999 } }
     s.withinBudget ∧ s.examine.load.queue = [⟨5, .restore 74, 5000⟩]) ∧
    (let s := { derated with settings := { Settings.defaults with busBudget := 5000 } }
     s.load.queue = [⟨5, .restore 74, 5000⟩] ∧ s.load.granted.toList.sum + (5000 - s.load.granted[5]) = 5000 ∧
       s.examine.load.queue = [] ∧ s.examine.load.granted[5] = 5000) ∧ bench.load.queue = [] ∧
    (let s := { derated with load := { derated.load with queue := [⟨6, .drainStart, 9000⟩], starts := [0, 0, 0, 0] } }
     s.load.queue = [⟨6, .drainStart, 9000⟩] ∧ ¬ s.load.starts.length < 4) := by decide +kernel

theorem test_meets_grant : (running (programIn .pulseWait)).program 5 = some (programIn .pulseWait) ∧
    (running (programIn .drainWait)).program 5 = some (programIn .drainWait) ∧ derated.load.starts = 7899000 :: [] := by
  decide +kernel

theorem test_meets_hot_drain :
    (let s := { derated with load := { derated.load with derated := Vector.replicate 16 none, granted := (Vector.replicate 16 0).set 5 5001 } }
     s.load.derated[5] = none ∧ 5001 / 2 ≤ s.load.granted[5] ∧ s.settings.derate = 85) ∧
    (let s := { derated with load := { derated.load with queue := [] } }
     s.load.derated[5] = some 5000 ∧ (∀ e ∈ s.load.queue, e.isRestore = true → e.bay ≠ 5) ∧
       (s.settings.derate : Int) - s.settings.hysteresis = 75) ∧
    (let s := { derated with load := { derated.load with queue := [⟨6, .restore 74, 5000⟩] } }
     (∀ e ∈ s.load.queue, e.isRestore = true → e.bay ≠ 5) ∧ s.load.queue ≠ []) ∧
    derated.load.derated[5] = some 5000 ∧ (∃ e ∈ derated.load.queue, e.isRestore = true ∧ e.bay = 5) ∧
    (derated.load.queue.head?.map (·.bay)) = some 5 ∧
    (let s := { derated with load := { derated.load with queue := [⟨6, .drainStart, 5000⟩, ⟨5, .restore 74, 5000⟩] } }
     (∃ e ∈ s.load.queue, e.isRestore = true ∧ e.bay = 5) ∧ (s.load.queue.head?.map (·.bay)) ≠ some 5) ∧
    derated.load.granted[5] ≠ 0 ∧ bench.load.granted[5] = 0 := by decide +kernel

theorem test_meets_list : bench.attending ∧ (0 : Byte).toNat = 0 ∧ 32 ≤ (32 : Byte).toNat ∧ 240 ≤ (240 : Byte).toNat ∧
    (31 : Byte).toNat ≠ 0 ∧ (31 : Byte).toNat < 32 ∧ (239 : Byte).toNat < 240 := by decide

/-- A POOL_IMPORT body for position 52, without identity or capacity. -/
def importBody (grade : Byte) : List Byte :=
  [52, 0, 3, 24] ++ bytes32 1000000 ++ [grade, 0, 0] ++ bytes16 65535 ++ bytes16 9999 ++ [0] ++ bytes32 100 ++ bytes32 120000

/-- The bench with every record in use. -/
def fullPool : State := { bench with records := Vector.replicate 240 (some shelved) }

theorem test_meets_import : bench.attending ∧ poolImportFields (importBody 0) = .error .range ∧
    (poolImportFields (importBody 2)).toOption.isSome = true ∧ (∀ r, fullPool.record r ≠ none) ∧
    bench.record 0 = none ∧ (∀ i, i < (0 : RecordNo) → bench.record i ≠ none) ∧ (bench.position 52).state = .free ∧
    (fullRack.position 52).state = .unknown ∧ ((onRack shelved (.held 11) true).position 52).state = .held 11 := by decide +kernel

theorem test_meets_delete_and_place : almostBuilt.attending ∧ bench.record 11 = none ∧
    almostBuilt.record 11 = some { shelved with state := .reserved 2 1 } ∧
    (onRack shelved (.held 11) true).record 11 = some shelved ∧ shelved.state = .available ∧
    (onRack { shelved with state := .unshelved } (.assigned 11) false).record 11 = some { shelved with state := .unshelved } ∧
    (((onRack { shelved with state := .unshelved } (.assigned 11) false).setPosition 239 ⟨.unknown, true, false⟩).position 239).state =
      .unknown := by decide +kernel

theorem test_meets_freed_position :
    (let s := { withBay (.hold runRequest gradedB) with holdQueue := [5] }
     s.holdQueue = [5] ∧ (s.bay 5).state = .hold runRequest gradedB ∧ s.record 0 = none ∧ (s.position 0).state = .free) ∧
    bench.holdQueue = [] ∧ (∀ p, (fullRack.position p).state ≠ .free) ∧
    (let s := { withBay (.hold runRequest gradedB) with
        holdQueue := [5]
        positions := fullRack.positions.set 239 ⟨.free, false, false⟩ }
     (s.position 239).state = .free ∧ ∀ i : PositionNo, i < 239 → (s.position i).state ≠ .free) := by decide +kernel

theorem test_meets_presence : (bench.position 52).state = .free ∧ (fullRack.position 52).state = .unknown ∧
    (onRack shelved (.held 11) true).record 11 = some shelved ∧
    ((onRack shelved (.assigned 11) false).position 52).state = .assigned 11 ∧
    ((onRack { shelved with state := .absent } (.vacated 11) false).position 52).state = .vacated 11 ∧
    ((onRack { shelved with state := .rejected } (.held 11) true).position 52).state = .held 11 ∧
    (almostBuilt.position 52).state = .held 11 ∧ almostBuilt.string 2 = some lastPick ∧
    lastPick.slots[1]? = some (.reserved 11 slotValues) ∧
    (∀ y ∈ lastPick.slots.set 1 (.picked slotValues 3 7900), (y matches .picked ..) = true) ∧
    (∃ y ∈ [Slot.reserved 2 slotValues, .vacant].set 0 (.picked slotValues 1 7900), (y matches .picked ..) = false) := by decide +kernel

theorem test_meets_rack_timers : bench.scanner.dwellTimer = some 20 ∧
    (∀ c : ColumnNo, (bench.position (positionAt bench.scanner.row c)).present = (0 : BitVec 24).getLsbD c.val ∧
      (bench.position (positionAt bench.scanner.row c)).pendingChange = false) ∧
    (let s := { watching with scanner := { watching.scanner with watchTimer := some 9700000 } }
     s.scanner.watchTimer = some 9700000 ∧ ∀ c, (s.reach 9700000).due (positionAt 0 c) = false) ∧
    (bench.position 4).present = false ∧ (bench.position 4).pendingChange = false ∧
    ((bench.setPosition 4 ⟨.free, false, true⟩).position 4).pendingChange = true ∧
    ({ bench with events := { bench.events with pulseTimer := some 7900001 } }).events.pulseTimer = some 7900001 := by
  decide +kernel

theorem test_meets_visit : bench.scanner.row.val + 1 < 10 ∧
    (let s := { watching with scanner := { watching.scanner with row := 9 } }
     s.scanner.row = 9 ∧ s.scanner.mode = .watch ∧ s.scanner.passStart + s.scanner.watchPeriod * 1000 ≤ s.clock.ms ∧
       (s.setClock ⟨1799999, 1799, 999⟩).clock.ms < s.scanner.passStart + s.scanner.watchPeriod * 1000) ∧
    ({ bench with scanner := { bench.scanner with row := 9 } }).scanner.mode = .active ∧
    (∀ c : ColumnNo, (bench.position (positionAt bench.scanner.row c)).state = .free) ∧
    (let s := { onRack { shelved with restTime := 7600 } (.held 11) true with scanner := { bench.scanner with row := 2, lastColumn := some 3 } }
     (3 : ColumnNo) < 4 ∧ (s.position (positionAt s.scanner.row 4)).state = .held 11 ∧
       s.record 11 = some { shelved with restTime := 7600 } ∧ 7600 + s.settings.sampleInterval ≤ s.clock.seconds) ∧
    ([VisitStage.dwell, .tail].map fun x =>
      let s := { onRack shelved (.held 11) true with
        scanner := { bench.scanner with stage := x }
        arbiter := { State.reset.arbiter with converter := .busy .rack 7900000, rackMark := some 52 } }
      (s.arbiter.converter, s.arbiter.rackMark, s.scanner.stage)) =
      [(.busy .rack 7900000, some 52, .dwell), (.busy .rack 7900000, some 52, .tail)] := by decide +kernel

theorem test_meets_shelf_sample :
    (∀ r, (bench.position 52).state ≠ .held r) ∧ ((onRack shelved (.held 11) true).position 52).state = .held 11 ∧
    (onRack shelved (.held 11) true).record 11 = some shelved ∧ shelved.stale = false ∧ shelved.baseline = none ∧
    (let x := { shelved with baseline := some ⟨42961, 100⟩ }
     (onRack x (.held 11) true).record 11 = some x ∧ x.baseline = some ⟨42961, 100⟩ ∧ x.state = .available ∧
       bench.clock.seconds - 100 < bench.settings.minObservation ∧
       ((onRack x (.held 11) true).setClock ⟨0, 43300, 0⟩).settings.minObservation ≤ 43300 - 100 ∧
       (onRack x (.held 11) true).settings.reject < driftOf ⟨42961, 100⟩ 42900 43300 12 ∧
       driftOf ⟨42961, 100⟩ 42950 43300 12 ≤ bench.settings.downgrade ∧ bench.settings.downgrade ≤ bench.settings.reject) ∧
    ((onRack { shelved with state := .rejected, baseline := some ⟨42961, 100⟩ } (.held 11) true).record 11).map (fun x => x.state) =
      some .rejected := by decide +kernel

/-- The part 43,300 s after power-on, with record 11 sampled 43,200 s before. -/
def rested (x : Record) : State := ({ onRack x (.held 11) true with clock := ⟨43300000, 43300, 0⟩ }).setString 2 (some lastPick)

/-- Record 11 with a baseline, of a grade and in a state. -/
def aging (g : Grade) (x : RecordState) : Record := { shelved with grade := g, state := x, baseline := some ⟨42961, 100⟩ }

theorem test_meets_drift :
    ([aging .a .available, aging .b (.reserved 2 1), aging .c .available, aging .c (.reserved 2 1),
      { aging .b .available with flags := { downgraded := true } }].map fun x =>
        ((rested x).position 52, (rested x).record 11, x.baseline)) =
    [aging .a .available, aging .b (.reserved 2 1), aging .c .available, aging .c (.reserved 2 1),
      { aging .b .available with flags := { downgraded := true } }].map (fun x =>
        (⟨.held 11, true, false⟩, some x, some ⟨42961, 100⟩)) ∧
    bench.settings.minObservation ≤ 43300 - 100 ∧ bench.settings.reject < driftOf ⟨42961, 100⟩ 42900 43300 12 ∧
    bench.settings.downgrade < driftOf ⟨42961, 100⟩ 42940 43300 12 ∧ driftOf ⟨42961, 100⟩ 42940 43300 12 ≤ bench.settings.reject ∧
    (rested (aging .b (.reserved 2 1))).string 2 = some lastPick ∧ (Grade.c).rank ≤ (Grade.c).rank ∧
    lastPick.request.minGrade.rank < (Grade.c).rank := by decide +kernel

/-- A pool of the five records of 07_string_pairing.md's example, at positions of their own numbers. -/
def examplePool : State :=
  pairingCandidates.foldl (fun s c => s.setRecord c.record (some { shelved with
    position := c.record, grade := .b, identity := none
    capacity := c.values.capacity.map fun n => ⟨n, 875⟩
    resistance := c.values.resistance
    restVoltage := c.values.voltage })) bench

/-- R127, R131: the example's build takes records 4, 9 and 2. -/
theorem test_string_build_picks : (after (.stringBuild 9 byCapacity.bytes) examplePool).map (fun t => (t.record 9).map (fun x => x.state)) =
    some (some (.reserved 0 1)) := by decide +kernel

theorem test_meets_build : stringBuildFields byCapacity.bytes = .ok byCapacity ∧
    stringBuildFields (StringRequest.bytes { byCapacity with minGrade := .r }) = .error .range ∧
    (∀ k, ({ bench with strings := Vector.replicate 6 (some lastPick) }).string k ≠ none) ∧ almostBuilt.string 0 = none ∧
    byCapacity.search (bench.eligible byCapacity) = none ∧ (byCapacity.search (examplePool.eligible byCapacity)).isSome = true ∧
    0 < byCapacity.length := by decide +kernel

theorem test_meets_string_requests : bench.attending ∧ bench.string 2 = none ∧ almostBuilt.string 2 = some lastPick ∧
    lastPick.state ≠ .complete ∧
    (bench.setString 2 (some ⟨.complete, byCapacity, 7000, []⟩)).string 2 = some ⟨.complete, byCapacity, 7000, []⟩ ∧
    (let s := bench.setString 2 (some ⟨.waiting, byCapacity, 7000, []⟩)
     s.string 2 = some ⟨.waiting, byCapacity, 7000, []⟩ ∧ ∀ j, j ≠ 2 → s.string j = none) ∧
    Slot.reserved 11 slotValues ∈ lastPick.slots ∧
    almostBuilt.record 11 = some { shelved with state := .reserved 2 1 } ∧
    (almostBuilt.releaseSlots lastPick.slots).record 11 = some shelved ∧ .reserved 12 slotValues ∉ lastPick.slots := by decide +kernel

/-- A string of one vacant slot, in a state, for records like those of the example. -/
def openString (x : StringState) : StringEntry := ⟨x, byCapacity, 7000, [.picked slotValues 1 7100, .vacant]⟩

theorem test_meets_repair :
    examplePool.findSubstitutes (openString .blocked) ≠ none ∧ bench.findSubstitutes (openString .blocked) = none ∧
    bench.string 2 = none ∧
    ([StringState.picking, .complete, .blocked, .waiting].map fun x => ((bench.setString 2 (some (openString x))).string 2).map StringEntry.state) =
      [some .picking, some .complete, some .blocked, some .waiting] ∧
    byCapacity.search ((bench.setString 2 (some (openString .waiting))).eligible byCapacity) = none ∧
    (byCapacity.search ((examplePool.setString 2 (some (openString .waiting))).eligible byCapacity)).isSome = true := by decide +kernel

theorem test_meets_lamps : bench.attending ∧ (Pattern.defaults[0]).valid = true ∧ (Pattern.defaults[7]).valid = true ∧
    Pattern.valid ⟨0, 0, 1, 1, 0, 0, .linear⟩ = false ∧ (Pattern.valid ⟨10, 10, 255, 0, 5000, 0, .square⟩) = true ∧
    (withBay (.faulted .heat)).lampShows 245 = some 2 ∧ watching.lamps.dark = true ∧ bench.lamps.overrides[52] = none ∧
    bench.lampRole 52 = none := by decide +kernel

/-- A string of two reserved slots, and its records at positions 51 and 52. -/
def twoReserved : State :=
  (((onRack { shelved with state := .reserved 2 2 } (.held 11) true).setRecord 12
      (some { shelved with state := .reserved 2 1, position := 51 })).setPosition 51 ⟨.held 12, true, false⟩).setString 2
    (some ⟨.picking, byCapacity, 7000, [.vacant, .reserved 12 slotValues, .reserved 11 slotValues]⟩)

/-- R16, R103, R137, R155: the roles of lamps 51, 52 and 245, and what lamps 245 and 52 show. -/
theorem test_lamp_roles_of_owners :
    (twoReserved.lampRole 51, twoReserved.lampRole 52, bench.lampRole 239) = (some .nextPick, some .reserved, none) ∧
    ([PositionState.free, .assigned 11, .held 11, .vacated 11, .unknown].map fun x => (onRack shelved x true).lampRole 52) =
      [none, some .putaway, none, none, some .unknownOccupant] ∧
    (onRack { shelved with state := .rejected } (.held 11) true).lampRole 52 = some .shelfReject ∧
    ([BayState.empty, .seated, .engaged, .releasing 0, .testing (programIn .pulseWait), .hold runRequest gradedB].map fun x =>
      (bench.setBay 5 { state := x, resultRole := .bayReject }).lampRole 245) =
      [none, some .bayReject, some .bayReject, some .bayReject, some .bayTesting, some .bayHold] ∧
    (withBay .seated).lampRole 245 = none ∧
    ((withBay (.faulted .heat)).setOverride 245 (some 7)).lampShows 245 = some 7 ∧
    (watching.setOverride 245 (some 7)).lampShows 245 = none ∧ bench.lampShows 52 = none := by decide +kernel

theorem test_meets_figures : 45468 < 45720 ∧ 0 < 10000 ∧ 200 ≤ 200 ∧ (-20 : Int) ≤ -20 ∧ (60 : Int) ≤ 60 ∧ 0 < 1800 ∧
    244 + 50 ≤ 294 ∧ 244 < 195 + 50 := by decide

theorem test_meets_caps : GradeLimits.defaults.valid = true ∧ (undrained 2001).capacityBy cellProfile none = none ∧
    GradeLimits.defaults.rrA ≤ GradeLimits.defaults.rrB ∧ GradeLimits.defaults.rrB ≤ GradeLimits.defaults.rrC ∧
    GradeLimits.defaults.rrC < (undrained 2001).pulse.ratio ∧
    (let p := { programIn (.settle none) with charge := 100000000 }
     p.capacityBy cellProfile (some ⟨42960, 7890⟩) ≠ none) := by decide

theorem test_meets_state_of_charge :
    (∀ i j : Fin 21, i < j → cellProfile.breakpoints[i] < cellProfile.breakpoints[j]) ∧ 0 < 12 ∧
    36000 / 12 ≤ cellProfile.breakpoints[0] ∧ cellProfile.breakpoints[20] ≤ 49800 / 12 ∧
    cellProfile.breakpoints[(19 : Fin 20).castSucc] ≤ 49799 / 12 ∧ 49799 / 12 < cellProfile.breakpoints[(19 : Fin 20).succ] := by
  decide +kernel

end Sys2Proof.Tests
end

section
/-! The contacts of a bay (01_test_bays.md, Contacts and debounce; R2-R4): what a raw change and the expiry of the debounce timer do
to a contact, what a confirmed change does to its bay state by state, and O29. -/

namespace Sys2Proof.Machine

variable {s : State} {b : BayNo} {c : Contact} {level : Bool} {m : Moment}

/-! ## Time leaves the bays as they are -/

@[simp] theorem State.reach_bay (s : State) (m : Moment) (b : BayNo) : (s.reach m).bay b = s.bay b := by
  unfold State.reach
  split <;> rfl

/-! ## A contact of a bay -/

@[simp] theorem Bay.setContact_state (c : Contact) (x : ContactLevel) (y : Bay) : (y.setContact c x).state = y.state := by
  cases c <;> rfl

/-- R2: a raw change of a contact rewrites that contact alone, its debounce timer set by the two levels. -/
theorem exec_bayContactChange_of_change (free : s.heldInReset = false) (change : ((s.bay b).contact c).raw ≠ level) :
    exec (.bayContactChange b c level) s = .next (s.setBay b ((s.bay b).setContact c
      (ContactLevel.timed s.settings.debounce s.now { (s.bay b).contact c with raw := level }))) := by
  simp [exec, execBayContactChange, free, change]

/-- R2: at the debounce timer's expiry the debounced level takes the raw level, and the confirmed change acts on the bay. -/
theorem exec_debounceExpiry_of_change {old : Bool} (h : (s.bay b).contact c = ⟨level, old, some m⟩) (change : level ≠ old) :
    exec (.debounceExpiry b c) s =
      .next (((s.reach m).setBay b ((s.bay b).setContact c ⟨level, level, none⟩)).contactConfirmed b c level) := by
  simp [exec, execDebounceExpiry, State.debounced, h, change]

/-! ## A confirmed change, by the state of its bay -/

/-- R3: an arrival seats an EMPTY bay. -/
theorem State.presenceGained_of_empty (h : (s.bay b).state = .empty) : s.presenceGained b = s.seat b := by
  simp [State.presenceGained, h]

/-- R3: an arrival in any other state is recorded alone. -/
theorem State.presenceGained_of_ne_empty (h : (s.bay b).state ≠ .empty) : s.presenceGained b = s := by
  unfold State.presenceGained
  split
  · next empty => exact absurd empty h
  · rfl

/-- R3, R10: to seat a bay just written is to write it once more, SEATED. -/
theorem State.seat_setBay (t : State) (b : BayNo) (y : Bay) :
    (t.setBay b y).seat b = ((t.setBay b y).setBay b { y with state := .seated }).raise (.baySeated b) := by
  simp [State.seat, State.setBayState]

/-- R3, R10: to vacate a bay just written is to write it once more, EMPTY and without its result role. -/
theorem State.vacate_setBay (t : State) (b : BayNo) (y : Bay) :
    (t.setBay b y).vacate b =
      ((t.setBay b y).setBay b { y with state := .empty, resultRole := .none }).raise (.bayEmpty b) := by
  simp [State.vacate]

/-! ## The statement -/

/-- Settles O29: each part is the exec equation of its command (`exec_bayContactChange_of_change`,
`exec_debounceExpiry_of_change`), followed by what the confirmed change does at the bay's state. -/
theorem aBayContactIsDebouncedAndActsOnItsBay : Obligations.ABayContactIsDebouncedAndActsOnItsBay := by
  refine ⟨fun s b level free => ⟨exec_bayContactChange_of_change (c := .presence) free,
    exec_bayContactChange_of_change (c := .clampClosed) free⟩, fun s b m => ⟨?gained, ?lost, ?closed, ?opened⟩⟩
  case gained =>
    intro h
    have confirmed := exec_debounceExpiry_of_change (c := .presence) h (by decide)
    refine ⟨fun empty => ?_, fun other => ?_⟩
    · rw [confirmed, State.contactConfirmed, State.presenceGained_of_empty (by simpa using empty), State.seat_setBay]
      rfl
    · rw [confirmed, State.contactConfirmed, State.presenceGained_of_ne_empty (by simpa using other)]
      rfl
  case lost =>
    intro h
    rw [exec_debounceExpiry_of_change (c := .presence) h (by decide), State.contactConfirmed, State.presenceLost,
      State.setBay_bay_self, Bay.setContact_state, State.vacate_setBay]
    cases (s.bay b).state <;> rfl
  case closed =>
    exact fun h => exec_debounceExpiry_of_change (c := .clampClosed) h (by decide)
  case opened =>
    intro h
    rw [exec_debounceExpiry_of_change (c := .clampClosed) h (by decide), State.contactConfirmed, State.clampOpened,
      State.setBay_bay_self, Bay.setContact_state]
    cases (s.bay b).state <;> rfl

end Sys2Proof.Machine
end

section
/-! The record of a conversion at its bay (03_conversions_and_the_load_bus.md, The shared converter; R24, R47): CONVERSION_COMPLETE
as delivery between the clearing of the bay's mark and the moving on of the converter, a record that no program awaits, and O34. -/

namespace Sys2Proof.Machine

variable {s : State} {b : BayNo} {m : Moment}

/-! ## A record reaches its bay -/

@[simp] theorem State.reach_arbiter (s : State) (m : Moment) : (s.reach m).arbiter = s.arbiter := by
  unfold State.reach
  split <;> rfl

/-- R47: a record reaches its bay by two updates, the coming of its moment and the clearing of the bay's mark. -/
theorem recordReaches_eq (b : BayNo) (m : Moment) (s : State) :
    RecordReaches b m s = (s.reach m).setArbiter (s.arbiter.clearMark (.bay b)) := rfl

@[simp] theorem recordReaches_bay (b c : BayNo) (m : Moment) (s : State) : (RecordReaches b m s).bay c = s.bay c := by
  rw [recordReaches_eq, State.setArbiter_bay, State.reach_bay]

@[simp] theorem recordReaches_program (b c : BayNo) (m : Moment) (s : State) :
    (RecordReaches b m s).program c = s.program c := by
  unfold State.program
  rw [recordReaches_bay]

/-! ## CONVERSION_COMPLETE at a bay -/

/-- R47: the mark is cleared before the bay has its record; the converter moves on after it. -/
theorem exec_conversionComplete_of_bay (busy : s.arbiter.converter = .busy (.bay b) m) (v c : Nat) (t h : Int) :
    exec (.conversionComplete v c t h) s =
      .next (ConverterMovesOn (.bay b) ((RecordReaches b m s).deliverBay b ⟨v, c, t, h⟩)) := by
  simp only [exec, execConversionComplete, busy, State.completeConversion, State.reach_arbiter, recordReaches_eq]
  rfl

/-- R24: a record that answers no request of its bay's program changes nothing. -/
theorem State.deliverBay_of_not_awaiting (idle : ∀ p, s.program b = some p → p.awaiting = false) (x : Reading) :
    s.deliverBay b x = s := by
  unfold State.deliverBay
  split
  · next p running => simp [idle p running]
  · rfl

/-! ## The statement -/

/-- Settles O34: the exec equation of CONVERSION_COMPLETE at a bay, whose delivery leaves the part as it is where no program awaits
the record. -/
theorem aRecordNobodyAwaitsIsDiscarded : Obligations.ARecordNobodyAwaitsIsDiscarded := by
  intro s b m v c t h busy idle
  have discarded : (RecordReaches b m s).deliverBay b ⟨v, c, t, h⟩ = RecordReaches b m s :=
    State.deliverBay_of_not_awaiting (by simpa using idle) _
  rw [exec_conversionComplete_of_bay busy, discarded]

end Sys2Proof.Machine
end

section
/-! The figures of a program (04_grading_arithmetic.md; R69-R74): what a quotient rounded down and limited to its range says, the
figures as such quotients, and O58. -/

namespace Sys2Proof.Machine

/-! ## A quotient rounded down and limited to its range (R62) -/

theorem saturate_le (top x : Nat) : saturate top x ≤ top := Nat.min_le_right x top

theorem saturate_le_self (top x : Nat) : saturate top x ≤ x := Nat.min_le_left x top

theorem saturate_of_lt {top x : Nat} (h : saturate top x < top) : saturate top x = x := by
  unfold saturate at *
  omega

theorem saturate_mono (top : Nat) {x y : Nat} (h : x ≤ y) : saturate top x ≤ saturate top y := by
  unfold saturate
  omega

theorem saturate_div_mul_le (top n d : Nat) : saturate top (n / d) * d ≤ n :=
  le_trans (Nat.mul_le_mul_right d (saturate_le_self top _)) (Nat.div_mul_le_self n d)

theorem lt_saturate_div_succ_mul {top n d : Nat} (hd : 0 < d) (h : saturate top (n / d) < top) :
    n < (saturate top (n / d) + 1) * d := by
  rw [saturate_of_lt h]
  exact Nat.lt_mul_of_div_lt (Nat.lt_succ_self _) hd

/-! ## The measured resistance (R69) -/

/-- R69: the exact half rounded up is the numerator's `ip`. -/
theorem measuredResistance_bounds (v0 vp : Nat) {ip : Nat} (hip : 0 < ip) :
    measuredResistance v0 vp ip ≤ 65535 ∧
    2 * ip * measuredResistance v0 vp ip ≤ 2 * (v0 - vp) * 100000 + ip ∧
    (measuredResistance v0 vp ip < 65535 →
      2 * (v0 - vp) * 100000 + ip < 2 * ip * (measuredResistance v0 vp ip + 1)) := by
  rw [Nat.mul_comm (2 * ip), Nat.mul_comm (2 * ip)]
  exact ⟨saturate_le _ _, saturate_div_mul_le _ _ _, lt_saturate_div_succ_mul (by omega)⟩

/-! ## The resistance at 25 °C (R70) -/

/-- R70: within the ranges of the coefficient and of the window's temperatures the divisor is far from zero. -/
theorem divisorAt25_bounds {k : Nat} {t : Int} (hk : k ≤ 200) (hlow : -20 ≤ t) (hhigh : t ≤ 60) :
    1000 ≤ 10000 + (k : Int) * (t - 25) ∧ 10000 + (k : Int) * (t - 25) ≤ 17000 := by
  have falls : (k : Int) * (25 - t) ≤ 200 * 45 := mul_le_mul_of_nonneg (by omega) (by omega) (by omega) (by decide)
  have rises : (k : Int) * (t - 25) ≤ 200 * 35 := mul_le_mul_of_nonneg (by omega) (by omega) (by omega) (by decide)
  have opposite : (k : Int) * (25 - t) = -(k * (t - 25)) := by ring
  omega

/-- R70: the resistance at 25 °C over its divisor as a number. -/
theorem resistanceAt25_of_divisor {rm k d : Nat} {t : Int} (hd : 10000 + (k : Int) * (t - 25) = d) :
    resistanceAt25 rm k t = saturate 65535 (rm * 10000 / d) := by
  rw [resistanceAt25, hd, Int.toNat_natCast]

theorem resistanceAt25_eq_of_divisor {rm k : Nat} {t : Int} (h : (k : Int) * (t - 25) = 0) :
    resistanceAt25 rm k t = min rm 65535 := by
  rw [resistanceAt25_of_divisor (d := 10000) (by omega), Nat.mul_div_cancel _ (by decide), saturate]

/-- R70: a module above 25 °C reads no less than its resistance at 25 °C. -/
theorem resistanceAt25_le_of_warm {rm k : Nat} {t : Int} (warm : 25 ≤ t) : resistanceAt25 rm k t ≤ rm := by
  have grows : 0 ≤ (k : Int) * (t - 25) := mul_nonneg (by omega) (by omega)
  refine le_trans (saturate_le_self _ _) (Nat.div_le_of_le_mul ?_)
  rw [Nat.mul_comm]
  exact Nat.mul_le_mul_right rm (by omega)

/-- R70: a module below 25 °C reads no more than its resistance at 25 °C, but for the limit. -/
theorem le_resistanceAt25_of_cold {rm k : Nat} {t : Int} (cold : t ≤ 25) (hd : 0 < 10000 + (k : Int) * (t - 25)) :
    min rm 65535 ≤ resistanceAt25 rm k t := by
  have shrinks : (k : Int) * (t - 25) ≤ 0 := mul_nonpos_of_nonneg_of_nonpos (by omega) (by omega)
  have divisor : (10000 + (k : Int) * (t - 25)).toNat ≤ 10000 := by omega
  exact saturate_mono 65535 ((Nat.le_div_iff_mul_le (by omega)).2 (Nat.mul_le_mul_left rm divisor))

/-- R70: with a positive divisor the resistance is the quotient rounded down and limited. -/
theorem resistanceAt25_bounds (rm k : Nat) {t : Int} (hd : 0 < 10000 + (k : Int) * (t - 25)) :
    resistanceAt25 rm k t ≤ 65535 ∧
    (resistanceAt25 rm k t : Int) * (10000 + (k : Int) * (t - 25)) ≤ rm * 10000 ∧
    (resistanceAt25 rm k t < 65535 →
      (rm : Int) * 10000 < (resistanceAt25 rm k t + 1) * (10000 + (k : Int) * (t - 25))) := by
  obtain ⟨d, divisor⟩ := Int.eq_ofNat_of_zero_le hd.le
  rw [resistanceAt25_of_divisor divisor, divisor]
  have positive : 0 < d := by omega
  exact ⟨saturate_le _ _, mod_cast saturate_div_mul_le 65535 (rm * 10000) d,
    fun below => mod_cast lt_saturate_div_succ_mul positive below⟩

/-! ## The ratio, the capacity and the state of health (R71, R73, R74) -/

theorem resistanceRatio_bounds (r : Nat) {nominal : Nat} (positive : 0 < nominal) :
    resistanceRatio r nominal ≤ 9999 ∧ resistanceRatio r nominal * nominal ≤ r * 1000 ∧
    (resistanceRatio r nominal < 9999 → r * 1000 < (resistanceRatio r nominal + 1) * nominal) :=
  ⟨saturate_le _ _, saturate_div_mul_le _ _ _, lt_saturate_div_succ_mul positive⟩

theorem resistanceRatio_self {nominal : Nat} (positive : 0 < nominal) : resistanceRatio nominal nominal = 1000 := by
  rw [resistanceRatio, Nat.mul_div_cancel_left _ positive]
  rfl

/-- R73: a fall below 50 permille resolves no capacity. -/
theorem drainCapacity_of_small_fall (charge nameplate : Nat) {s0 s1 : Nat} (small : s0 < s1 + 50) :
    drainCapacity charge nameplate (socFall s0 s1) = none :=
  if_neg (by unfold socFall; omega)

/-- R73, R74: a fall of 50 permille or more gives both quotients. -/
theorem drainCapacity_of_fall (charge nameplate : Nat) {s0 s1 : Nat} (fall : s1 + 50 ≤ s0) :
    drainCapacity charge nameplate (socFall s0 s1) =
      some ⟨saturate 1000000 (charge * 25 / (36 * (s0 - s1))),
        saturate 1200 (saturate 1000000 (charge * 25 / (36 * (s0 - s1))) * 1000 / nameplate)⟩ := by
  have difference : (socFall s0 s1).toNat = s0 - s1 := by unfold socFall; omega
  rw [drainCapacity, if_pos (by unfold socFall; omega), difference]

/-! ## The statement -/

/-- Settles O58: each figure is a quotient rounded down and limited (`saturate_le`, `saturate_div_mul_le`,
`lt_saturate_div_succ_mul`), of a divisor that is positive in the ranges given. -/
theorem theFiguresAreRoundedDownAndSaturated : Obligations.TheFiguresAreRoundedDownAndSaturated := by
  refine ⟨fun v0 vp ip _ hip => measuredResistance_bounds v0 vp hip, fun rm k t hk hlow hhigh => ?resistance,
    fun r nominal positive => ?ratio, fun charge nameplate s0 s1 positive => ⟨?small, ?resolved⟩⟩
  case resistance =>
    obtain ⟨least, most⟩ := divisorAt25_bounds hk hlow hhigh
    have divides : 0 < 10000 + (k : Int) * (t - 25) := by omega
    obtain ⟨limited, below, above⟩ := resistanceAt25_bounds rm k divides
    refine ⟨least, most, limited, below, above, resistanceAt25_le_of_warm, (le_resistanceAt25_of_cold · divides), ?_⟩
    exact fun neutral => resistanceAt25_eq_of_divisor (by rcases neutral with rfl | rfl <;> simp)
  case ratio =>
    obtain ⟨limited, below, above⟩ := resistanceRatio_bounds r positive
    exact ⟨limited, below, above, resistanceRatio_self positive⟩
  case small => exact drainCapacity_of_small_fall charge nameplate
  case resolved =>
    intro fall
    refine ⟨_, _, drainCapacity_of_fall charge nameplate fall, saturate_le _ _, ?_, ?_, saturate_le _ _,
      saturate_div_mul_le _ _ _, lt_saturate_div_succ_mul positive⟩
    · rw [Nat.mul_comm]
      exact saturate_div_mul_le _ _ _
    · rw [Nat.mul_comm (36 * (s0 - s1))]
      exact lt_saturate_div_succ_mul (by omega)

end Sys2Proof.Machine
end

section
/-! The grades of a program (04_grading_arithmetic.md; R77-R80, R41): the first grade met, the caps as the worst of ranks, the graded
result, and O59. -/

namespace Sys2Proof.Machine

/-! ## The first grade met (R77) -/

/-- The first of the grades A, B and C whose condition holds, and R where none does. -/
def Grade.firstMet (a b c : Prop) [Decidable a] [Decidable b] [Decidable c] : Grade :=
  if a then .a else if b then .b else if c then .c else .r

section
variable (a b c : Prop) [Decidable a] [Decidable b] [Decidable c]

theorem Grade.firstMet_eq_iff :
    (Grade.firstMet a b c = .a ↔ a) ∧ (Grade.firstMet a b c = .b ↔ ¬a ∧ b) ∧
    (Grade.firstMet a b c = .c ↔ ¬a ∧ ¬b ∧ c) ∧ (Grade.firstMet a b c = .r ↔ ¬a ∧ ¬b ∧ ¬c) := by
  unfold Grade.firstMet
  split_ifs <;> simp_all

/-- Where each condition implies the next, a grade is at least as good as another exactly where the other's condition holds. -/
theorem Grade.rank_firstMet_le_iff (hab : a → b) (hbc : b → c) :
    ((Grade.firstMet a b c).rank ≤ 1 ↔ b) ∧ ((Grade.firstMet a b c).rank ≤ 2 ↔ c) := by
  unfold Grade.firstMet
  split_ifs <;> simp_all [Grade.rank]

end

/-- R77: the uncapped grade of a capacity is the first met of the three pairs of conditions. -/
theorem GradeLimits.uncapped_some (l : GradeLimits) (x : Capacity) (rr : Nat) :
    l.uncapped (some x) rr = Grade.firstMet (l.sohA ≤ x.health ∧ rr ≤ l.rrA) (l.sohB ≤ x.health ∧ rr ≤ l.rrB)
      (l.sohC ≤ x.health ∧ rr ≤ l.rrC) := rfl

/-- R76: the limits of a valid set loosen from A to C. -/
theorem GradeLimits.loosen_of_valid {l : GradeLimits} (h : l.valid = true) :
    l.sohB ≤ l.sohA ∧ l.sohC ≤ l.sohB ∧ l.rrA ≤ l.rrB ∧ l.rrB ≤ l.rrC := by
  simp only [GradeLimits.valid, Bool.and_eq_true, decide_eq_true_eq] at h
  omega

/-- R78: above the last of rising limits the ratio alone gives R. -/
theorem GradeLimits.byRatio_of_above {l : GradeLimits} {rr : Nat} (hab : l.rrA ≤ l.rrB) (hbc : l.rrB ≤ l.rrC)
    (above : l.rrC < rr) : l.byRatio rr = .r := by
  rw [GradeLimits.byRatio, if_neg (by omega), if_neg (by omega), if_neg (by omega)]

/-! ## The caps (R78, R79) -/

theorem Grade.rank_injective : Function.Injective Grade.rank := by
  intro g h
  cases g <;> cases h <;> decide

/-- A cap is the worse of the two grades. -/
theorem Grade.rank_cap (limit g : Grade) : (Grade.cap limit g).rank = max g.rank limit.rank := by
  unfold Grade.cap
  split <;> omega

/-- A cap that one flag brings. -/
def Grade.capIf (on : Bool) (limit g : Grade) : Grade := if on then Grade.cap limit g else g

theorem Grade.rank_capIf (on : Bool) (limit g : Grade) :
    (Grade.capIf on limit g).rank = max g.rank (if on then limit.rank else 0) := by
  unfold Grade.capIf
  split
  · exact Grade.rank_cap limit g
  · simp

/-- R78, R79: a capped grade is the grade under the caps of three flags. -/
theorem Flags.capGrade_eq (f : Flags) (g : Grade) :
    f.capGrade g = Grade.capIf f.unsettled .c (Grade.capIf f.sparse .b (Grade.capIf f.capAbsent .b g)) := rfl

/-- A capped grade is the worst of the grade and the caps in force. -/
theorem Flags.rank_capGrade (f : Flags) (g : Grade) :
    (f.capGrade g).rank = max g.rank
      (max (if f.capAbsent = true ∨ f.sparse = true then 1 else 0) (if f.unsettled = true then 2 else 0)) := by
  have rankB : Grade.rank .b = 1 := rfl
  have rankC : Grade.rank .c = 2 := rfl
  have eitherCapsAtB : (if f.capAbsent = true ∨ f.sparse = true then 1 else 0) =
      max (if f.capAbsent = true then 1 else 0) (if f.sparse = true then 1 else 0) := by
    cases f.capAbsent <;> cases f.sparse <;> rfl
  rw [eitherCapsAtB]
  simp only [Flags.capGrade_eq, Grade.rank_capIf, rankB, rankC]
  omega

/-- The caps come to the same in the reverse order: both have the same worst rank. -/
theorem Flags.capGrade_reverse (f : Flags) (g : Grade) :
    f.capGrade g = Grade.capIf f.capAbsent .b (Grade.capIf f.sparse .b (Grade.capIf f.unsettled .c g)) := by
  apply Grade.rank_injective
  simp only [Flags.capGrade_eq, Grade.rank_capIf]
  omega

/-- R78: without a capacity no grade is A. -/
theorem Flags.capGrade_ne_a {f : Flags} (absent : f.capAbsent = true) (g : Grade) : f.capGrade g ≠ .a := by
  intro best
  have rank := f.rank_capGrade g
  rw [best, if_pos (Or.inl absent)] at rank
  have : Grade.rank .a = 0 := rfl
  omega

/-- No cap makes R better. -/
theorem Flags.capGrade_r (f : Flags) : f.capGrade .r = .r := by
  apply Grade.rank_injective
  rw [f.rank_capGrade]
  have : Grade.rank .r = 3 := rfl
  split_ifs <;> omega

/-! ## The graded result (R41, R80) -/

section
variable (p : Program) (b : BayNo) (f : Profile) (l : GradeLimits) (v : Option SettleReading) (time : Seconds)

theorem Program.grade_flags : (p.grade b f l v time).flags = { p.flags with capAbsent := (p.capacityBy f v).isNone } := rfl

theorem Program.grade_grade : (p.grade b f l v time).grade =
    (p.grade b f l v time).flags.capGrade (l.uncapped (p.capacityBy f v) p.pulse.ratio) := rfl

end

/-! ## The statement -/

/-- Settles O59: the tests from best to worst give the first grade met (`Grade.firstMet_eq_iff`), and the caps the worst of the ranks
(`Flags.rank_capGrade`). -/
theorem theGradeIsTheBestMetUnderItsCaps : Obligations.TheGradeIsTheBestMetUnderItsCaps := by
  refine ⟨fun l x rr => ?uncapped, fun p b f l v time absent => ?absent, fun p b f l v time => ?figures,
    fun f g => ⟨f.rank_capGrade g, rfl, f.capGrade_reverse g⟩⟩
  case uncapped =>
    rw [l.uncapped_some]
    obtain ⟨isA, isB, isC, isR⟩ := Grade.firstMet_eq_iff (l.sohA ≤ x.health ∧ rr ≤ l.rrA) (l.sohB ≤ x.health ∧ rr ≤ l.rrB)
      (l.sohC ≤ x.health ∧ rr ≤ l.rrC)
    refine ⟨isA, isB, isC, isR, fun valid => ?_⟩
    obtain ⟨sohAB, sohBC, rrAB, rrBC⟩ := l.loosen_of_valid valid
    exact Grade.rank_firstMet_le_iff _ _ _ (fun ⟨soh, rr⟩ => ⟨by omega, by omega⟩) (fun ⟨soh, rr⟩ => ⟨by omega, by omega⟩)
  case absent =>
    have flagged : (p.grade b f l v time).flags.capAbsent = true := by rw [p.grade_flags, absent]; rfl
    have grade := p.grade_grade b f l v time
    rw [absent] at grade
    refine ⟨rfl, flagged, grade, grade ▸ Flags.capGrade_ne_a flagged _, fun hab hbc above => ?_⟩
    rw [grade, GradeLimits.uncapped, l.byRatio_of_above hab hbc above, Flags.capGrade_r]
  case figures =>
    refine ⟨fun x resolved => ⟨by rw [p.grade_flags, resolved]; rfl, by rw [p.grade_grade, resolved], resolved⟩,
      fun absent => ⟨by rw [p.grade_flags, absent]; rfl, absent⟩, ?_, ?_, rfl, rfl, rfl, rfl, rfl, rfl, rfl, rfl⟩
    · rintro rfl
      exact ⟨rfl, rfl, rfl⟩
    · rintro w rfl
      exact ⟨rfl, rfl⟩

end Sys2Proof.Machine
end

section
/-! The state of charge (04_grading_arithmetic.md; R67): the segment search by the segment it ends in, its bounds and its growth with
the voltage, the lookup as that search, and O60. -/

namespace Sys2Proof.Machine

variable {c c' k lo hi : Nat} {rest l : List Nat}

/-! ## The interpolated term -/

/-- R67: below a segment's upper end the interpolated term has not reached the next breakpoint's 50. -/
theorem interpolated_lt (below : c < hi) (rises : lo < hi) : 50 * (c - lo) / (hi - lo) < 50 :=
  (Nat.div_lt_iff_lt_mul (by omega)).2 (by omega)

theorem interpolated_mono (h : c ≤ c') : 50 * (c - lo) / (hi - lo) ≤ 50 * (c' - lo) / (hi - lo) :=
  Nat.div_le_div_right (by omega)

/-! ## The segment search -/

theorem getElem_le_getElem_of_rising (rises : l.Pairwise (· < ·)) {i j : Nat} (hij : i ≤ j) (hj : j < l.length) :
    l[i] ≤ l[j] :=
  rises.sortedLT.sortedLE.getElem_le_getElem_of_le hij

theorem socFrom_of_lt (below : c < hi) : socFrom c k (lo :: hi :: rest) = 50 * k + 50 * (c - lo) / (hi - lo) := by
  rw [socFrom, if_pos below]

theorem socFrom_of_le (above : hi ≤ c) : socFrom c k (lo :: hi :: rest) = socFrom c (k + 1) (hi :: rest) := by
  rw [socFrom, if_neg (by omega)]

/-- R67: the search ends in the segment that holds the voltage. -/
theorem socFrom_of_segment (rises : l.Pairwise (· < ·)) (j : Nat) (hj : j + 1 < l.length) (atLeast : l[j] ≤ c)
    (below : c < l[j + 1]) : socFrom c k l = 50 * (k + j) + 50 * (c - l[j]) / (l[j + 1] - l[j]) := by
  induction l generalizing k j with
  | nil => simp at hj
  | cons lo l ih =>
    cases l with
    | nil => simp at hj
    | cons hi rest =>
      cases j with
      | zero => exact socFrom_of_lt below
      | succ j =>
        have later := (List.pairwise_cons.1 rises).2
        have start : hi ≤ c := le_trans (getElem_le_getElem_of_rising later (Nat.zero_le j) _) atLeast
        rw [socFrom_of_le start, ih later j (by simpa using hj) atLeast below]
        simp only [List.getElem_cons_succ]
        omega

/-- R67: at or above every breakpoint the search runs off the list. -/
theorem socFrom_of_forall_le (above : ∀ x ∈ l, x ≤ c) : socFrom c k l = 1000 := by
  induction l generalizing k with
  | nil => rfl
  | cons lo l ih =>
    cases l with
    | nil => rfl
    | cons hi rest =>
      rw [socFrom_of_le (above hi (by simp))]
      exact ih fun x hx => above x (List.mem_cons_of_mem _ hx)

/-- The search never falls back behind the breakpoint it has come to. -/
theorem le_socFrom (fits : k + l.length ≤ 21) (nonempty : l ≠ []) : 50 * k ≤ socFrom c k l := by
  induction l generalizing k with
  | nil => exact absurd rfl nonempty
  | cons lo l ih =>
    rw [List.length_cons] at fits
    cases l with
    | nil => exact (show 50 * k ≤ 1000 by omega)
    | cons hi rest =>
      rcases Nat.lt_or_ge c hi with below | above
      · rw [socFrom_of_lt below]
        exact Nat.le_add_right _ _
      · rw [socFrom_of_le above]
        exact le_trans (by omega) (ih (k := k + 1) (by omega) (List.cons_ne_nil _ _))

/-- R67: a higher voltage never gives a lower state of charge. -/
theorem socFrom_mono (rises : l.Pairwise (· < ·)) (fits : k + l.length ≤ 21) (h : c ≤ c') :
    socFrom c k l ≤ socFrom c' k l := by
  induction l generalizing k with
  | nil => exact le_rfl
  | cons lo l ih =>
    cases l with
    | nil => exact le_rfl
    | cons hi rest =>
      obtain ⟨first, later⟩ := List.pairwise_cons.1 rises
      have fits' : (k + 1) + (hi :: rest).length ≤ 21 := by simp at fits ⊢; omega
      rcases Nat.lt_or_ge c' hi with below' | above'
      · rw [socFrom_of_lt below', socFrom_of_lt (by omega)]
        exact Nat.add_le_add_left (interpolated_mono h) _
      rcases Nat.lt_or_ge c hi with below | above
      · rw [socFrom_of_le above', socFrom_of_lt below]
        have term := interpolated_lt below (first hi (by simp))
        have next := le_socFrom (c := c') fits' (List.cons_ne_nil _ _)
        omega
      · rw [socFrom_of_le above', socFrom_of_le above]
        exact ih later fits'

/-! ## The lookup (R67) -/

section
variable {f : Profile} {voltage cells : Nat}

/-- R64: the breakpoints of the profile rise strictly. -/
def Profile.Rises (f : Profile) : Prop := ∀ i j : Fin 21, i < j → f.breakpoints[i] < f.breakpoints[j]

theorem Profile.Rises.pairwise (rises : f.Rises) : f.breakpoints.toList.Pairwise (· < ·) := by
  rw [List.pairwise_iff_getElem]
  intro i j hi hj hij
  simp only [Vector.length_toList] at hi hj
  exact rises ⟨i, hi⟩ ⟨j, hj⟩ hij

theorem Profile.Rises.socFrom_mono (rises : f.Rises) (h : c ≤ c') :
    socFrom c 0 f.breakpoints.toList ≤ socFrom c' 0 f.breakpoints.toList :=
  Machine.socFrom_mono rises.pairwise (by simp) h

/-- R67: in segment `k` the search gives 50 × k and the interpolated term. -/
theorem Profile.Rises.socFrom_of_segment (rises : f.Rises) (k : Fin 20) (atLeast : f.breakpoints[k.castSucc] ≤ c)
    (below : c < f.breakpoints[k.succ]) : socFrom c 0 f.breakpoints.toList =
      50 * k.val + 50 * (c - f.breakpoints[k.castSucc]) / (f.breakpoints[k.succ] - f.breakpoints[k.castSucc]) := by
  have found := Machine.socFrom_of_segment (k := 0) rises.pairwise k.val (by simp; omega) atLeast below
  rwa [Nat.zero_add] at found

/-- R67: at or above the last breakpoint the search runs off the list. -/
theorem Profile.Rises.socFrom_of_top (rises : f.Rises) (above : f.breakpoints[20] ≤ c) :
    socFrom c 0 f.breakpoints.toList = 1000 := by
  refine socFrom_of_forall_le fun x hx => ?_
  obtain ⟨i, hi, rfl⟩ := List.mem_iff_getElem.1 hx
  rw [Vector.length_toList] at hi
  exact le_trans (getElem_le_getElem_of_rising rises.pairwise (Nat.le_of_lt_succ hi) (by simp)) above

/-- R67: each breakpoint has its own 50 × k. -/
theorem Profile.Rises.socFrom_breakpoint (rises : f.Rises) (k : Fin 21) :
    socFrom f.breakpoints[k] 0 f.breakpoints.toList = 50 * k.val := by
  induction k using Fin.lastCases with
  | last => exact rises.socFrom_of_top le_rfl
  | cast k =>
    rw [rises.socFrom_of_segment k le_rfl (rises _ _ k.castSucc_lt_succ), Nat.sub_self, Nat.mul_zero, Nat.zero_div]
    rfl

/-- R67: the search by itself gives 0 below the first breakpoint, so the lookup is the search everywhere. -/
theorem Profile.Rises.stateOfCharge_eq (rises : f.Rises) (voltage cells : Nat) :
    stateOfCharge f voltage cells = socFrom (voltage / cells) 0 f.breakpoints.toList := by
  unfold stateOfCharge perCell
  split
  · next below =>
    have first := rises.socFrom_breakpoint 0
    exact (Nat.le_zero.1 (le_trans (rises.socFrom_mono below) first.le)).symm
  · rfl

/-- R67: no voltage gives more than the last breakpoint does. -/
theorem Profile.Rises.socFrom_le (rises : f.Rises) : socFrom c 0 f.breakpoints.toList ≤ 1000 :=
  le_trans (rises.socFrom_mono (Nat.le_max_left c f.breakpoints[20])) (rises.socFrom_of_top (Nat.le_max_right _ _)).le

/-- R68: a gate that passes hands back the state of charge. -/
theorem restGate_pass {plan : Plan} {t : Int} {soc : Nat} (passes : restGate f plan cells voltage t = .pass soc) :
    soc = stateOfCharge f voltage cells := by
  unfold restGate at passes
  split at passes
  · cases passes
  split at passes
  · cases passes
  split at passes
  · cases passes
  · exact (GateAnswer.pass.inj passes).symm

end

/-! ## The statement -/

/-- Settles O60: for rising breakpoints the lookup is the segment search (`Profile.Rises.stateOfCharge_eq`), which is known by the
segment it ends in and grows with the per-cell voltage. -/
theorem theStateOfChargeFollowsTheBreakpoints : Obligations.TheStateOfChargeFollowsTheBreakpoints := by
  refine ⟨fun f voltage cells (rises : f.Rises) _ => ?lookup, fun f plan cells voltage soc t => restGate_pass,
    fun p f v1 => rfl, by decide +kernel⟩
  case lookup =>
    simp only [rises.stateOfCharge_eq]
    refine ⟨fun below => ?_, rises.socFrom_of_top, fun k atLeast below => ⟨rises.socFrom_of_segment k atLeast below, ?_⟩,
      fun k onBreakpoint => ?_, rises.socFrom_le, fun higher h => rises.socFrom_mono (Nat.div_le_div_right h), fun other same => ?_⟩
    · exact Nat.le_zero.1 (le_trans (rises.socFrom_mono below) (rises.socFrom_breakpoint 0).le)
    · exact interpolated_lt below (rises _ _ k.castSucc_lt_succ)
    · rw [onBreakpoint, rises.socFrom_breakpoint]
    · rw [same]

end Sys2Proof.Machine
end

section
/-! POOL_READ and POSITION_READ (05_the_module_pool_and_shelf_positions.md; R84, R98): a request of one number by its range, what the
end of a reception leaves unchanged on the rack, the two handlers, and O42. -/

namespace Sys2Proof.Machine

variable {s : State}

/-! ## A request of one number -/

section
variable {n : Nat} {x : Byte} {f : Fin n → Handler}

/-- R178: a number out of range is refused with RANGE, whatever its owner. -/
theorem State.request_number_of_le (attends : s.attending) (type tag : Byte) (outside : n ≤ x.toNat) :
    s.request type tag (withFields (numberField n [x]) f) = s.answered (replyType type) tag (.plain .range) :=
  State.request_unchanged attends type tag _ _ (withFields_error (numberField_range n x outside) f _)

/-- R178: a number in range reaches its owner; an owner that leaves the part as it is has its reply sent, and nothing else changes. -/
theorem State.request_number_of_lt (attends : s.attending) (type tag : Byte) (inside : x.toNat < n) {body : ReplyBody}
    (answers : f ⟨x.toNat, inside⟩ s.hunt = (s.hunt, body)) :
    s.request type tag (withFields (numberField n [x]) f) = s.answered (replyType type) tag body :=
  State.request_unchanged attends type tag _ _ ((withFields_ok (numberField_byte n x inside) f _).trans answers)

end

/-! ## The rack at the end of a reception -/

@[simp] theorem State.hunt_record (s : State) (r : RecordNo) : s.hunt.record r = s.record r := rfl

@[simp] theorem State.hunt_position (s : State) (p : PositionNo) : s.hunt.position p = s.position p := rfl

@[simp] theorem State.hunt_positionRole (s : State) (p : PositionNo) : s.hunt.positionRole p = s.positionRole p := rfl

/-! ## The two handlers -/

/-- R98: the reply to POOL_READ, by the entry of its index. -/
def poolReadReply : Option Record → ReplyBody
  | some x => .record x
  | none => .plain .absent

theorem handlePoolRead_eq (r : RecordNo) (s : State) : handlePoolRead r s = (s, poolReadReply (s.record r)) := by
  unfold handlePoolRead
  cases s.record r <;> rfl

/-- R84: the reply to POSITION_READ. -/
def State.positionReport (p : PositionNo) (s : State) : PositionReport where
  state := (s.position p).state.name
  record := (s.position p).state.bound
  present := (s.position p).present
  pendingChange := (s.position p).pendingChange
  role := s.positionRole p

theorem handlePositionRead_eq (p : PositionNo) (s : State) : handlePositionRead p s = (s, .position (s.positionReport p)) := rfl

@[simp] theorem State.hunt_positionReport (s : State) (p : PositionNo) : s.hunt.positionReport p = s.positionReport p := by
  simp [State.positionReport]

/-! ## The two requests -/

section
variable {x : Byte}

theorem exec_poolRead_of_le (attends : s.attending) (tag : Byte) (outside : 240 ≤ x.toNat) :
    exec (.poolRead tag [x]) s = .next (s.answered 0xB0 tag (.plain .range)) :=
  congrArg _ (State.request_number_of_le attends 0x30 tag outside)

theorem exec_poolRead_of_lt (attends : s.attending) (tag : Byte) (inside : x.toNat < 240) :
    exec (.poolRead tag [x]) s = .next (s.answered 0xB0 tag (poolReadReply (s.record ⟨x.toNat, inside⟩))) :=
  congrArg _ (State.request_number_of_lt attends 0x30 tag inside (by rw [handlePoolRead_eq, State.hunt_record]))

theorem exec_positionRead_of_le (attends : s.attending) (tag : Byte) (outside : 240 ≤ x.toNat) :
    exec (.positionRead tag [x]) s = .next (s.answered 0xB5 tag (.plain .range)) :=
  congrArg _ (State.request_number_of_le attends 0x35 tag outside)

theorem exec_positionRead_of_lt (attends : s.attending) (tag : Byte) (inside : x.toNat < 240) :
    exec (.positionRead tag [x]) s = .next (s.answered 0xB5 tag (.position (s.positionReport ⟨x.toNat, inside⟩))) :=
  congrArg _ (State.request_number_of_lt attends 0x35 tag inside
    (by rw [handlePositionRead_eq, State.hunt_positionReport]))

end

/-! ## The statement -/

/-- Settles O42: each request by the range of its number, and POOL_READ in range by the entry of its index. -/
theorem aRecordAndAPositionAreReadWhole : Obligations.ARecordAndAPositionAreReadWhole := by
  intro s tag x attends
  rcases Nat.lt_or_ge x.toNat 240 with inside | outside
  · rw [dif_pos inside, dif_pos inside, exec_poolRead_of_lt attends tag inside, exec_positionRead_of_lt attends tag inside]
    refine ⟨?_, rfl⟩
    cases s.record ⟨x.toNat, inside⟩ <;> rfl
  · rw [dif_neg (Nat.not_lt.2 outside), dif_neg (Nat.not_lt.2 outside)]
    exact ⟨exec_poolRead_of_le attends tag outside, exec_positionRead_of_le attends tag outside⟩

end Sys2Proof.Machine
end

section
/-! The timers of the rack scanner and of the attention output (06_rack_scanning_and_shelf_watch.md, R106-R108, R119;
09_events_and_the_attention_line.md, R169): what the reading of one contact and of a row does, the exec equation of each of the three
expiries, and O48. -/

namespace Sys2Proof.Machine

variable {s : State} {m : Moment} {p : PositionNo} {raw : Bool}

/-! ## Time moves the clock alone -/

theorem State.reach_eq_setClock (s : State) (m : Moment) : s.reach m = s.setClock (s.reach m).clock := by
  unfold State.reach
  split <;> rfl

@[simp] theorem State.reach_scanner (s : State) (m : Moment) : (s.reach m).scanner = s.scanner := by
  rw [State.reach_eq_setClock, State.setClock_scanner]

@[simp] theorem State.reach_events (s : State) (m : Moment) : (s.reach m).events = s.events := by
  rw [State.reach_eq_setClock, State.setClock_events]

@[simp] theorem State.reach_settings (s : State) (m : Moment) : (s.reach m).settings = s.settings := by
  rw [State.reach_eq_setClock, State.setClock_settings]

@[simp] theorem State.reach_position (s : State) (m : Moment) (p : PositionNo) : (s.reach m).position p = s.position p := by
  rw [State.reach_eq_setClock, State.setClock_position]

/-! ## The reading of one contact (R108) -/

/-- A position written with what it holds is unchanged, and so is the rest of the state. -/
@[simp] theorem State.setPosition_position_eq_self (s : State) (p : PositionNo) : s.setPosition p (s.position p) = s := by
  have same : s.positions.set p s.positions[p] = s.positions := Vector.set_getElem_self p.isLt
  unfold State.setPosition State.position
  rw [same]
  rfl

theorem State.readContact_of_eq (agrees : raw = (s.position p).present) :
    s.readContact p raw = s.setPosition p { s.position p with pendingChange := false } :=
  if_pos agrees

theorem State.readContact_of_first (differs : raw ≠ (s.position p).present) (clear : (s.position p).pendingChange = false) :
    s.readContact p raw = s.setPosition p { s.position p with pendingChange := true } := by
  simp [State.readContact, differs, clear]

/-- R83, R108: the second differing reading writes the position and hands the change to the pool and the watch. -/
theorem State.readContact_of_second (differs : raw ≠ (s.position p).present) (marked : (s.position p).pendingChange = true) :
    s.readContact p raw =
      (s.setPosition p { s.position p with present := raw, pendingChange := false }).confirmedChange p raw := by
  simp [State.readContact, differs, marked]

/-- R108, first row: a contact that agrees with a position whose mark is clear changes nothing. -/
theorem State.readContact_of_steady (agrees : (s.position p).present = raw) (clear : (s.position p).pendingChange = false) :
    s.readContact p raw = s := by
  have unmarked : { s.position p with pendingChange := false } = s.position p := by rw [← clear]
  rw [State.readContact_of_eq agrees.symm, unmarked, State.setPosition_position_eq_self]

/-- R108: a row whose contacts all agree, with no mark set, is read without a change. -/
theorem State.readRow_of_steady {row : RowNo} {contacts : BitVec 24}
    (steady : ∀ c : ColumnNo, (s.position (positionAt row c)).present = contacts.getLsbD c.val ∧
      (s.position (positionAt row c)).pendingChange = false) : s.readRow row contacts = s :=
  List.foldl_fixed' (fun c => State.readContact_of_steady (steady c).1 (steady c).2) _

/-! ## DWELL_TIMER_EXPIRY (R106) -/

/-- R106: the state in which the contacts are read: the moment of the expiry has come and the dwell timer stands still. -/
def State.dwellElapsed (m : Moment) (s : State) : State :=
  { s.reach m with scanner := { s.scanner with dwellTimer := none } }

@[simp] theorem State.dwellElapsed_position (m : Moment) (s : State) (p : PositionNo) :
    (s.dwellElapsed m).position p = s.position p := State.reach_position s m p

@[simp] theorem State.dwellElapsed_rackMark (m : Moment) (s : State) :
    (s.dwellElapsed m).arbiter.rackMark = s.arbiter.rackMark := congrArg _ (State.reach_arbiter s m)

/-- R106: once the contacts are read, the visit ends, or goes on in TAIL for a pending sample. -/
def State.contactsRead (s : State) : State :=
  if s.arbiter.rackMark = none then s.endVisit else { s with scanner := { s.scanner with stage := .tail } }

theorem State.dwellOver_reach (s : State) (m : Moment) (contacts : BitVec 24) :
    (s.reach m).dwellOver contacts = ((s.dwellElapsed m).readRow s.scanner.row contacts).contactsRead := by
  unfold State.dwellOver State.contactsRead
  simp only [State.reach_scanner, Option.isSome_iff_ne_none, ne_eq, ite_not]
  rfl

theorem exec_dwellTimerExpiry_of_running (running : s.scanner.dwellTimer = some m) (contacts : BitVec 24) :
    exec (.dwellTimerExpiry contacts) s = .next ((s.dwellElapsed m).readRow s.scanner.row contacts).contactsRead := by
  simp only [exec, execDwellTimerExpiry, running, State.dwellOver_reach]

/-! ## WATCH_TIMER_EXPIRY and PULSE_TIMER_EXPIRY (R119, R169) -/

theorem State.setScanner_due (s : State) (x : Scanner) (p : PositionNo) : (s.setScanner x).due p = s.due p := rfl

/-- R110: a row of which nothing is due makes no request. -/
theorem State.dueTest_of_not_due (noneDue : ∀ c, s.due (positionAt s.scanner.row c) = false) : s.dueTest = s := by
  have noColumn : s.nextDue = none := List.find?_eq_none.2 fun c _ => by simp [noneDue c]
  rw [State.dueTest, noColumn]

/-- R106, R107: the selection of a row of which nothing is due starts its visit and nothing else. -/
theorem State.selectRow_of_not_due {row : RowNo} (noneDue : ∀ c, s.due (positionAt row c) = false) :
    s.selectRow row = s.setScanner { s.scanner with
      row := row
      stage := .dwell
      dwellTimer := some (s.clock.ms + s.settings.rowDwell)
      lastColumn := none
      passStart := if row = 0 then s.clock.ms else s.scanner.passStart
      watchTimer := none } :=
  State.dueTest_of_not_due fun c => (State.setScanner_due ..).trans (noneDue c)

theorem exec_watchTimerExpiry_of_running (running : s.scanner.watchTimer = some m) :
    exec .watchTimerExpiry s = .next ((s.reach m).selectRow 0) := by
  simp only [exec, execWatchTimerExpiry, running]

theorem exec_pulseTimerExpiry_of_running (running : s.events.pulseTimer = some m) :
    exec .pulseTimerExpiry s = .next (s.reach m).endPulse := by
  simp only [exec, execPulseTimerExpiry, running]

/-! ## The statement -/

/-- Settles O48: the exec equation of each expiry; the reading of the row, which a steady row leaves without effect; and the reading
of one contact by the rows of R108. -/
theorem theRackAndPulseTimersExpire : Obligations.TheRackAndPulseTimersExpire := by
  refine ⟨?steadyRow, ?anyRow, ?contact, ?watch, ?pulse⟩
  case steadyRow =>
    intro s m contacts running steady
    have unchanged : (s.dwellElapsed m).readRow s.scanner.row contacts = s.dwellElapsed m :=
      State.readRow_of_steady (by simpa using steady)
    rw [exec_dwellTimerExpiry_of_running running, unchanged, State.contactsRead, State.dwellElapsed_rackMark, apply_ite Host.Outcome.next]
    rfl
  case anyRow =>
    intro s m contacts running
    rw [exec_dwellTimerExpiry_of_running running, State.contactsRead, apply_ite Host.Outcome.next]
    rfl
  case contact =>
    refine fun s p raw => ⟨State.readContact_of_eq, State.readContact_of_first, fun differs marked => ⟨?arrival, ?removal⟩⟩
    case arrival =>
      rintro rfl
      exact State.readContact_of_second differs marked
    case removal =>
      rintro rfl
      exact State.readContact_of_second differs marked
  case watch =>
    intro s m running noneDue
    rw [exec_watchTimerExpiry_of_running running, State.selectRow_of_not_due noneDue, State.reach_scanner, State.reach_settings,
      if_pos rfl]
    rfl
  case pulse =>
    intro s m running
    rw [exec_pulseTimerExpiry_of_running running, State.endPulse, State.reach_events]
    rfl

end Sys2Proof.Machine
end

section
/-! The levels and drives of the lamps (08_guidance_lamps.md, Patterns; R149-R151): the fade between two intensities, the level of a
cycling pattern by the part of its cycle, what a valid pattern promises, the two curves, what a lamp shows, and O57. -/

namespace Sys2Proof.Machine

/-! ## A fade (R150) -/

section
variable {a b t length : Nat}

/-- The part of a change covered after `t` of `length` milliseconds, rounded down, lies between no change and all of it. -/
theorem fadedPart_mem_uIcc (d : Int) (within : t < length) : d * t / (length : Int) ∈ Set.uIcc 0 d := by
  have positive : (0 : Int) < length := by omega
  have notOver : (t : Int) ≤ length := by omega
  rcases le_total 0 d with rising | falling
  · rw [Set.uIcc_of_le rising]
    exact ⟨Int.ediv_nonneg (by positivity) positive.le,
      Int.ediv_le_of_le_mul positive (mul_le_mul_of_nonneg_left notOver rising)⟩
  · rw [Set.uIcc_of_ge falling]
    exact ⟨Int.le_ediv_of_mul_le positive (mul_le_mul_of_nonpos_left notOver falling),
      Int.ediv_le_of_le_mul positive (by simpa using mul_nonpos_of_nonpos_of_nonneg falling (Int.natCast_nonneg t))⟩

theorem fadeQuotient_mem_uIcc (within : t < length) : (a : Int) + ((b : Int) - a) * t / (length : Int) ∈ Set.uIcc (a : Int) b := by
  have part := fadedPart_mem_uIcc ((b : Int) - a) within
  rw [Set.mem_uIcc] at part ⊢
  omega

/-- R150: inside its part a fade is never below 0, so its level is the quotient rounded down. -/
theorem coe_fadeLevel (within : t < length) :
    (fadeLevel a b t length : Int) = (a : Int) + ((b : Int) - a) * t / (length : Int) := by
  have bounds := fadeQuotient_mem_uIcc (a := a) (b := b) within
  rw [Set.mem_uIcc] at bounds
  rw [fadeLevel, Int.fdiv_eq_ediv_of_nonneg _ (Int.natCast_nonneg length), Int.toNat_of_nonneg (by omega)]

theorem fadeLevel_mem_uIcc (within : t < length) : fadeLevel a b t length ∈ Set.uIcc a b := by
  have bounds := fadeQuotient_mem_uIcc (a := a) (b := b) within
  rw [← coe_fadeLevel within, Set.mem_uIcc] at bounds
  rw [Set.mem_uIcc]
  omega

end

/-! ## The parts of a cycle (R150) -/

section
variable {p : Pattern} {q : Nat}

theorem Pattern.cycleLevel_of_rise (rising : q < min p.fadeIn p.onTime) :
    p.cycleLevel q = fadeLevel p.offIntensity p.onIntensity q (min p.fadeIn p.onTime) := by
  rw [Pattern.cycleLevel, if_pos (lt_of_lt_of_le rising (Nat.min_le_right ..)), if_pos rising]

theorem Pattern.cycleLevel_of_on (risen : min p.fadeIn p.onTime ≤ q) (on : q < p.onTime) : p.cycleLevel q = p.onIntensity := by
  rw [Pattern.cycleLevel, if_pos on, if_neg risen.not_gt]

theorem Pattern.cycleLevel_of_fall (off : p.onTime ≤ q) (falling : q - p.onTime < min p.fadeOut p.offTime) :
    p.cycleLevel q = fadeLevel p.onIntensity p.offIntensity (q - p.onTime) (min p.fadeOut p.offTime) := by
  rw [Pattern.cycleLevel, if_neg off.not_gt, if_pos falling]

theorem Pattern.cycleLevel_of_off (off : p.onTime ≤ q) (fallen : min p.fadeOut p.offTime ≤ q - p.onTime) :
    p.cycleLevel q = p.offIntensity := by
  rw [Pattern.cycleLevel, if_neg off.not_gt, if_neg fallen.not_gt]

/-- R150: a cycling pattern stays between its two intensities, in its holds and in its fades. -/
theorem Pattern.cycleLevel_mem_uIcc (p : Pattern) (q : Nat) : p.cycleLevel q ∈ Set.uIcc p.onIntensity p.offIntensity := by
  rcases Nat.lt_or_ge q p.onTime with on | off
  · rcases Nat.lt_or_ge q (min p.fadeIn p.onTime) with rising | risen
    · rw [cycleLevel_of_rise rising, Set.uIcc_comm]
      exact fadeLevel_mem_uIcc rising
    · rw [cycleLevel_of_on risen on]
      exact Set.left_mem_uIcc
  · rcases Nat.lt_or_ge (q - p.onTime) (min p.fadeOut p.offTime) with falling | fallen
    · rw [cycleLevel_of_fall off falling]
      exact fadeLevel_mem_uIcc falling
    · rw [cycleLevel_of_off off fallen]
      exact Set.right_mem_uIcc

end

/-! ## The level of a pattern (R149) -/

section
variable {p : Pattern}

theorem Pattern.level_of_steadyOn (noOff : p.offTime = 0) (elapsed : Nat) : p.level elapsed = p.onIntensity := if_pos noOff

theorem Pattern.level_of_steadyOff (noOn : p.onTime = 0) (off : 0 < p.offTime) (elapsed : Nat) :
    p.level elapsed = p.offIntensity := by
  rw [Pattern.level, if_neg off.ne', if_pos noOn]

theorem Pattern.level_of_cycling (on : 0 < p.onTime) (off : 0 < p.offTime) (elapsed : Nat) :
    p.level elapsed = p.cycleLevel (elapsed % (p.onTime + p.offTime)) := by
  rw [Pattern.level, if_neg off.ne', if_neg on.ne']

/-- R149: the cycle is repeated without a gap. -/
theorem Pattern.level_add_cycle (on : 0 < p.onTime) (off : 0 < p.offTime) (elapsed : Nat) :
    p.level (elapsed + (p.onTime + p.offTime)) = p.level elapsed := by
  rw [level_of_cycling on off, level_of_cycling on off, Nat.add_mod_right]

theorem Pattern.level_mem_uIcc (p : Pattern) (elapsed : Nat) : p.level elapsed ∈ Set.uIcc p.onIntensity p.offIntensity := by
  rcases Nat.eq_zero_or_pos p.offTime with noOff | off
  · rw [level_of_steadyOn noOff]
    exact Set.left_mem_uIcc
  rcases Nat.eq_zero_or_pos p.onTime with noOn | on
  · rw [level_of_steadyOff noOn off]
    exact Set.right_mem_uIcc
  · rw [level_of_cycling on off]
    exact p.cycleLevel_mem_uIcc _

/-- R153: the checks of a valid pattern, as conditions on its fields. -/
theorem Pattern.valid_iff : p.valid = true ↔
    (p.onTime ≤ 10000 ∧ p.onTime % 10 = 0) ∧ (p.offTime ≤ 10000 ∧ p.offTime % 10 = 0) ∧ ¬ (p.onTime = 0 ∧ p.offTime = 0) ∧
      p.onIntensity ≤ 255 ∧ p.offIntensity ≤ 255 ∧ p.fadeIn ≤ 5000 ∧ p.fadeOut ≤ 5000 := by
  simp [Pattern.valid, and_assoc, imp_iff_not_or]

/-- R149: a valid cycle is 20 ms to 20 s long, since both its times are multiples of 10 ms. -/
theorem Pattern.cycle_mem_Icc (valid : p.valid = true) (on : 0 < p.onTime) (off : 0 < p.offTime) :
    p.onTime + p.offTime ∈ Set.Icc 20 20000 := by
  obtain ⟨⟨onMax, onTens⟩, ⟨offMax, offTens⟩, -⟩ := Pattern.valid_iff.1 valid
  rw [Set.mem_Icc]
  omega

theorem Pattern.level_le (valid : p.valid = true) (elapsed : Nat) : p.level elapsed ≤ 255 := by
  obtain ⟨-, -, -, onMax, offMax, -⟩ := Pattern.valid_iff.1 valid
  exact le_trans (p.level_mem_uIcc elapsed).2 (max_le onMax offMax)

end

/-! ## The curves (R151) -/

/-- R151: between its ends the SQUARE curve lies below the LINEAR one. -/
theorem Curve.drive_square_lt_drive_linear {level : Nat} (lit : 0 < level) (dim : level < 255) :
    Curve.drive .square level < Curve.drive .linear level := Nat.mul_lt_mul_of_pos_right dim lit

theorem Curve.drive_linear_le {level : Nat} (h : level ≤ 255) : Curve.drive .linear level ≤ 65025 :=
  Nat.mul_le_mul_left 255 h

/-! ## A lamp (R150, R155) -/

section
variable {s : State} {l : LampNo}

theorem State.lampLevel_of_shows {n : PatternNo} (shows : s.lampShows l = some n) :
    s.lampLevel l = s.lamps.patterns[n].level (s.clock.ms - s.lamps.epochs[n]) := by
  rw [State.lampLevel, shows]
  rfl

theorem State.lampDrive_of_shows {n : PatternNo} (shows : s.lampShows l = some n) :
    s.lampDrive l = s.lamps.patterns[n].curve.drive (s.lampLevel l) := by
  rw [State.lampDrive, shows]

theorem State.lampDrive_of_dark (shows : s.lampShows l = none) : s.lampDrive l = 0 := by
  rw [State.lampDrive, shows]

theorem State.lampShows_of_watch (dark : s.lamps.dark = true) : s.lampShows l = none := if_pos dark

/-- R155: a lamp with neither an override nor a role shows nothing. -/
theorem State.lampShows_of_no_role (noOverride : s.lamps.overrides[l] = none) (noRole : s.lampRole l = none) :
    s.lampShows l = none := by
  simp [State.lampShows, noOverride, noRole]

end

/-! ## The statement -/

/-- Settles O57: the level of a valid pattern by its two times and the part of its cycle, between its intensities throughout
(`Pattern.level_mem_uIcc`); the two curves; and the drive of a lamp by what it shows. -/
theorem aLampsDriveFollowsItsPattern : Obligations.ALampsDriveFollowsItsPattern := by
  refine ⟨fun p elapsed valid => ?pattern, fun level most => ?curves, by decide, fun s l => ?lamp⟩
  case pattern =>
    obtain ⟨-, -, notBoth, -⟩ := Pattern.valid_iff.1 valid
    obtain ⟨atLeast, atMost⟩ := p.level_mem_uIcc elapsed
    refine ⟨notBoth, fun noOff => Pattern.level_of_steadyOn noOff _,
      fun noOn => Pattern.level_of_steadyOff noOn (Nat.pos_of_ne_zero fun noOff => notBoth ⟨noOn, noOff⟩) _,
      fun on off => ?cycle, atLeast, atMost, Pattern.level_le valid elapsed⟩
    obtain ⟨shortest, longest⟩ := Pattern.cycle_mem_Icc valid on off
    refine ⟨shortest, longest, Pattern.level_add_cycle on off elapsed, ?_⟩
    rw [Pattern.level_of_cycling on off]
    refine ⟨fun rising => ?_, Pattern.cycleLevel_of_on, fun offPart falling => ?_, Pattern.cycleLevel_of_off⟩
    · rw [Pattern.cycleLevel_of_rise rising, coe_fadeLevel rising]
    · rw [Pattern.cycleLevel_of_fall offPart falling, coe_fadeLevel falling]
  case curves =>
    exact ⟨rfl, rfl, Curve.drive_square_lt_drive_linear, Curve.drive_linear_le most⟩
  case lamp =>
    refine ⟨fun n shows => ⟨State.lampLevel_of_shows shows, State.lampDrive_of_shows shows⟩, ?_⟩
    rintro (dark | ⟨noOverride, noRole⟩)
    · exact State.lampDrive_of_dark (State.lampShows_of_watch dark)
    · exact State.lampDrive_of_dark (State.lampShows_of_no_role noOverride noRole)

end Sys2Proof.Machine
end

section
/-! EVENTS_TAKE (09_events_and_the_attention_line.md; R165, R168): a wake and the link's own state, a request that a listening part
takes in shelf watch (R121, R178 step 1), the request's one field, the take and the attention output after it, and O19. -/

namespace Sys2Proof.Machine

variable {s : State}

/-! ## A wake and the link

A wake neither reads nor writes the state of the link, so it is the same before and after the end of a reception. -/

theorem State.raise_setLink (s : State) (x : Link) (w : Happening) : (s.setLink x).raise w = (s.raise w).setLink x := by
  unfold State.raise
  rw [apply_ite (State.setLink x), apply_ite (State.setLink x)]
  rfl

theorem State.selectRow_setLink (s : State) (x : Link) (r : RowNo) :
    (s.setLink x).selectRow r = (s.selectRow r).setLink x := by
  obtain ⟨scanner, arbiter⟩ := State.selectRow_congr (s := s.setLink x) (t := s) r rfl rfl rfl rfl rfl rfl
  calc (s.setLink x).selectRow r
      = ((s.setLink x).setScanner (s.selectRow r).scanner).setArbiter (s.selectRow r).arbiter := by
        rw [← scanner, ← arbiter]
        exact (State.selectRow_eq _ r).1
    _ = ((s.setScanner (s.selectRow r).scanner).setArbiter (s.selectRow r).arbiter).setLink x := rfl
    _ = (s.selectRow r).setLink x := by rw [← (State.selectRow_eq s r).1]

theorem State.leaveWatch_setLink (s : State) (x : Link) : (s.setLink x).leaveWatch = s.leaveWatch.setLink x := by
  unfold State.leaveWatch
  dsimp only
  rw [apply_ite (State.setLink x), ← State.selectRow_setLink]
  rfl

theorem State.wake_setLink (s : State) (x : Link) (c : WokenCause) : (s.setLink x).wake c = (s.wake c).setLink x := by
  unfold State.wake
  rw [apply_ite (State.setLink x), ← State.leaveWatch_setLink, ← State.raise_setLink]
  rfl

@[simp] theorem State.raise_heldInReset (s : State) (w : Happening) : (s.raise w).heldInReset = s.heldInReset := by
  rw [State.raise_eq, State.setEvents_heldInReset]

@[simp] theorem State.leaveWatch_heldInReset (s : State) : s.leaveWatch.heldInReset = s.heldInReset := by
  rw [s.leaveWatch_eq.1]
  simp

@[simp] theorem State.leaveWatch_link (s : State) : s.leaveWatch.link = s.link := by
  rw [s.leaveWatch_eq.1]
  simp

@[simp] theorem State.leaveWatch_events (s : State) : s.leaveWatch.events = s.events := by
  rw [s.leaveWatch_eq.1]
  simp

@[simp] theorem State.wake_heldInReset (s : State) (c : WokenCause) : (s.wake c).heldInReset = s.heldInReset := by
  unfold State.wake
  split_ifs <;> simp

@[simp] theorem State.wake_link (s : State) (c : WokenCause) : (s.wake c).link = s.link := by
  unfold State.wake
  split_ifs <;> simp

theorem State.wake_hunt (s : State) (c : WokenCause) : s.hunt.wake c = (s.wake c).hunt := by
  unfold State.hunt
  rw [State.wake_setLink, State.wake_link]

/-- R121: after a wake the scan mode is ACTIVE. -/
theorem State.wake_mode (s : State) (c : WokenCause) : (s.wake c).scanner.mode = .active := by
  cases mode : s.scanner.mode with
  | active => rw [State.wake_active mode, mode]
  | watch =>
    rw [State.wake, if_pos mode]
    exact (State.leaveWatch_eq _).2

theorem State.wake_attending (listens : s.listening) (c : WokenCause) : (s.wake c).attending := by
  refine ⟨?_, s.wake_mode c⟩
  simpa [State.listening] using listens

/-- R121, R162: the wake that ends a watch raises WOKEN, and the end of the watch raises nothing more. -/
theorem State.wake_events_of_watch (watch : s.scanner.mode = .watch) (c : WokenCause) :
    (s.wake c).events = (s.raise (.woken c)).events := by
  rw [State.wake, if_pos watch, State.leaveWatch_events]

/-- R178 step 1: a listening part handles a request as it does once it has been woken. -/
theorem State.request_wake (listens : s.listening) (type tag : Byte) (f : Handler) :
    s.request type tag f = (s.wake .link).request type tag f := by
  obtain ⟨free, accepts⟩ := listens
  rw [State.request_attending (State.wake_attending ⟨free, accepts⟩ .link), ← State.wake_hunt, State.request,
    if_neg (by simp [free]), if_neg (by simp [accepts])]

/-! ## The count of a take (R165) -/

section
variable {x : Byte}

theorem eventsTakeFields_of_mem (inside : 1 ≤ x.toNat ∧ x.toNat ≤ 16) : eventsTakeFields [x] = .ok x.toNat := by
  have passes : checked (fun n => 1 ≤ n && n ≤ 16) (u8 [x] 0) = some x.toNat := if_pos (by simpa [u8] using inside)
  rw [eventsTakeFields, passes]
  rfl

theorem eventsTakeFields_of_not_mem (outside : ¬ (1 ≤ x.toNat ∧ x.toNat ≤ 16)) : eventsTakeFields [x] = .error .range := by
  have fails : checked (fun n => 1 ≤ n && n ≤ 16) (u8 [x] 0) = none := if_neg (by simpa [u8] using outside)
  rw [eventsTakeFields, fails]
  rfl

end

/-! ## The take (R165) -/

/-- The events as a take of `count` records leaves them. -/
def Events.taken (e : Events) (count : Nat) : Events := { e with queue := e.queue.drop count, overflow := false }

/-- R165: the reply to a take of `count` records. -/
def Events.takenReply (e : Events) (count : Nat) : ReplyBody :=
  .eventsTaken (e.queue.take count) e.overflow (e.queue.length - count)

theorem handleEventsTake_eq (count : Nat) (s : State) :
    handleEventsTake count s = (s.setEvents (s.events.taken count), s.events.takenReply count) := by
  rw [Events.takenReply, ← List.length_drop]
  rfl

theorem exec_eventsTake_of_mem {x : Byte} (attends : s.attending) (tag : Byte) (inside : 1 ≤ x.toNat ∧ x.toNat ≤ 16) :
    exec (.eventsTake tag [x]) s =
      .next ((s.answered 0x85 tag (s.events.takenReply x.toNat)).setEvents (s.events.taken x.toNat)) := by
  show Host.Outcome.next (s.request 0x05 tag (eventsTakeHandler [x])) = _
  rw [State.request_attending attends, eventsTakeHandler, withFields_ok (eventsTakeFields_of_mem inside),
    handleEventsTake_eq]
  rfl

theorem exec_eventsTake_of_not_mem {x : Byte} (attends : s.attending) (tag : Byte)
    (outside : ¬ (1 ≤ x.toNat ∧ x.toNat ≤ 16)) :
    exec (.eventsTake tag [x]) s = .next (s.answered 0x85 tag (.plain .range)) :=
  congrArg _ (State.request_unchanged attends 0x05 tag _ _ (withFields_error (eventsTakeFields_of_not_mem outside) _ _))

/-- R168: in LEVEL mode the output is asserted while a record waits. -/
theorem State.attentionAsserted_of_level (level : s.settings.attention = .level) :
    s.attentionAsserted = !s.events.queue.isEmpty := by
  rw [State.attentionAsserted, level]

/-- R168: a take of as many records as wait empties the queue, and with it releases the output in LEVEL mode. -/
theorem State.attentionAsserted_setEvents_taken {count : Nat} (level : s.settings.attention = .level) {e : Events}
    (all : e.queue.length ≤ count) : (s.setEvents (e.taken count)).attentionAsserted = false := by
  rw [State.attentionAsserted_of_level (by simpa using level)]
  simp [Events.taken, List.drop_eq_nil_of_le all]

/-! ## The statement -/

/-- Settles O19: the take by the range of its count, the attention output after a take of the whole queue, and the take in shelf
watch by the wake that a request begins with (`State.request_wake`). -/
theorem aTakeReturnsTheOldestEvents : Obligations.ATakeReturnsTheOldestEvents := by
  intro s tag x
  refine ⟨fun attends => ?take, fun attends level atLeast atMost all => ?released, fun listens watch => ?woken⟩
  case take =>
    split_ifs with inside
    · exact exec_eventsTake_of_mem attends tag inside
    · exact exec_eventsTake_of_not_mem attends tag inside
  case released =>
    exact ⟨_, exec_eventsTake_of_mem attends tag ⟨atLeast, atMost⟩, State.attentionAsserted_setEvents_taken level all⟩
  case woken =>
    refine ⟨congrArg Host.Outcome.next (State.request_wake listens 0x05 tag _), State.wake_attending listens .link, fun enabled room => ?_⟩
    rw [State.wake_events_of_watch watch]
    exact (State.raise_room s (.woken .link) enabled room).1

end Sys2Proof.Machine
end

section
/-! STATUS and BAY_QUERY (10_link_framing_and_message_reference.md; 95_what_each_step_holds.md, R179; 01_test_bays.md, R17): what the
end of a reception leaves as reported, what a bay's report holds by the bay's state, the exec equation of each request, and O17. -/

namespace Sys2Proof.Machine

variable {s : State}

/-! ## The summary of the part (R179) -/

@[simp] theorem State.hunt_statusReport (s : State) : s.hunt.statusReport = s.statusReport := rfl

/-- R178: a request of no fields with an empty body reaches its owner; an owner that leaves the part as it is has its reply sent, and
nothing else changes. -/
theorem State.request_noFields (attends : s.attending) (type tag : Byte) {f : Unit → Handler} {body : ReplyBody}
    (answers : f () s.hunt = (s.hunt, body)) :
    s.request type tag (withFields (noFields []) f) = s.answered (replyType type) tag body :=
  State.request_unchanged attends type tag _ _ ((withFields_ok rfl f _).trans answers)

theorem exec_status (attends : s.attending) (tag : Byte) :
    exec (.status tag []) s = .next (s.answered 0x81 tag (.partStatus s.statusReport)) :=
  congrArg _ (State.request_noFields attends 0x01 tag (by rw [handleStatus, State.hunt_statusReport]))

/-! ## The report of a bay (R17) -/

@[simp] theorem State.hunt_bay (s : State) (b : BayNo) : s.hunt.bay b = s.bay b := rfl

section
variable {y : Bay}

/-- The cause is reported exactly in FAULTED. -/
theorem Bay.report_cause_eq_some {c : FaultCause} : y.report.cause = some c ↔ y.state = .faulted c := by
  rw [Bay.report]
  cases y.state <;> simp

/-- The held grade is reported exactly in HOLD. -/
theorem Bay.report_heldGrade_eq_some {g : Grade} :
    y.report.heldGrade = some g ↔ ∃ q x, y.state = .hold q x ∧ x.grade = g := by
  rw [Bay.report]
  cases y.state <;> simp

/-- The request is reported exactly in TESTING, as the program has it, and in HOLD. -/
theorem Bay.report_request_eq_some {q : RunRequest} :
    y.report.request = some q ↔ (∃ p, y.state = .testing p ∧ p.request = q) ∨ ∃ x, y.state = .hold q x := by
  rw [Bay.report]
  cases y.state <;> simp

theorem Bay.report_program_of_testing {p : Program} (testing : y.state = .testing p) : y.report.program = some p.report := by
  rw [Bay.report, testing]

theorem Bay.report_identity_of_testing {p : Program} (testing : y.state = .testing p) : y.report.identity = p.identity := by
  rw [Bay.report, testing]

theorem Bay.report_program_of_not_testing (outside : ∀ p, y.state ≠ .testing p) : y.report.program = none := by
  rw [Bay.report]
  cases state : y.state with
  | testing p => exact absurd state (outside p)
  | _ => rfl

/-- Outside TESTING the identity is that of the last result. -/
theorem Bay.report_identity_of_not_testing (outside : ∀ p, y.state ≠ .testing p) :
    y.report.identity = y.lastResult.bind LastResult.identity := by
  rw [Bay.report]
  cases state : y.state with
  | testing p => exact absurd state (outside p)
  | _ => rfl

end

/-- The one number of a request made from a number in range is that number. -/
theorem numberField_of_fin {n : Nat} (k : Fin n) (h : n ≤ 256) : numberField n [byte k] = .ok k := by
  have same : (byte k).toNat = k := Nat.mod_eq_of_lt (k.isLt.trans_le h)
  exact (numberField_byte n _ (by rw [same]; exact k.isLt)).trans (congrArg _ (Fin.ext same))

theorem exec_bayQuery (attends : s.attending) (tag : Byte) (b : BayNo) :
    exec (.bayQuery tag [byte b]) s = .next (s.answered 0xA4 tag (.bay (s.bay b).report)) :=
  congrArg _ (State.request_unchanged attends 0x24 tag _ _ ((withFields_ok (numberField_of_fin b (by decide)) _ _).trans
    (by rw [handleBayQuery, State.hunt_bay])))

/-! ## The statement -/

/-- Settles O17: each request by its exec equation, with the summary's two items that are not read off as they stand, and the bay's
report by the bay's state. -/
theorem thePartAndABayAreReported : Obligations.ThePartAndABayAreReported := by
  refine ⟨fun s tag attends => ?status, fun s tag b attends => ⟨(s.bay b).report, exec_bayQuery attends tag b, ?report⟩⟩
  case status =>
    rw [exec_status attends, State.statusReport, attends.2, List.countP_eq_length_filter]
    rfl
  case report =>
    refine ⟨rfl, rfl, rfl, rfl, rfl, fun _ => Bay.report_cause_eq_some, fun _ => Bay.report_heldGrade_eq_some,
      fun _ => Bay.report_request_eq_some, fun p testing => ?_, fun outside => ?_⟩
    · exact ⟨Bay.report_identity_of_testing testing, p.report, Bay.report_program_of_testing testing, rfl, rfl⟩
    · exact ⟨Bay.report_program_of_not_testing outside, Bay.report_identity_of_not_testing outside⟩

end Sys2Proof.Machine
end

section
/-! The invariants of the part (03_conversions_and_the_load_bus.md, R49, R50; 05_the_module_pool_and_shelf_positions.md, R81-R83;
08_guidance_lamps.md, R158; 09_events_and_the_attention_line.md, R162; 10_link_framing_and_message_reference.md, R177): each of the
updates that `State.Kept` lists keeps the bounds and the pairing, so that every step does (O3, O4), and both hold after reset. -/

namespace Sys2Proof.Machine

variable {s : State}

/-! ## The bounds -/

/-- R162: an event never takes the queue above its places. -/
theorem Events.length_after_le {e : Events} (room : e.queue.length ≤ Config.eventPlaces) (mode : AttentionMode) (now : Moment)
    (time : Seconds) (w : Happening) : (e.after mode now time w).queue.length ≤ Config.eventPlaces := by
  unfold Events.after
  split_ifs with _ free
  · exact room
  · simp only [Events.join, List.length_append, List.length_singleton]
    omega
  · exact room

/-- R50: the load bus changes the start list within its limit. -/
theorem Load.length_le_of_startsFrom {old new : List Moment} (change : Load.startsFrom old new)
    (limit : old.length ≤ Config.startLimit) : new.length ≤ Config.startLimit := by
  rcases change with rfl | ⟨room, m, rfl⟩ | rfl
  · exact limit
  · simp only [List.length_append, List.length_singleton]
    omega
  · simp only [List.length_tail]
    omega

/-- R49: the load bus changes the granted sum within the budget. -/
theorem State.sumFrom_le {x : Load} (change : s.sumFrom x) (within : s.withinBudget) : x.grantedSum ≤ s.settings.busBudget := by
  unfold State.sumFrom at change
  unfold State.withinBudget at within
  omega

theorem Load.grantedSum_of_none : Load.grantedSum State.reset.load = 0 := by decide

theorem State.Bounded.cleared (s : State) : s.cleared.Bounded where
  events := Nat.zero_le _
  replies := Nat.zero_le _
  starts := Nat.zero_le _
  budget := le_of_eq_of_le Load.grantedSum_of_none (Nat.zero_le _)
  dark := by simp [State.cleared, State.reset]

theorem State.Bounded.kept : State.Kept State.Bounded where
  bays h _ := { h with }
  arbiter h _ := { h with }
  holdQueue h _ := { h with }
  strings h _ := { h with }
  load h _ starts sum :=
    have within := State.sumFrom_le sum h.budget
    { h with starts := Load.length_le_of_startsFrom starts h.starts, budget := within }
  scanner h _ mode := { h with dark := by simpa [mode] using h.dark }
  raise h w := by
    rw [State.raise_eq]
    exact { h with events := Events.length_after_le h.events _ _ _ _ }
  relight h := { h with dark := by simp }
  record h _ _ _ := { h with }
  position h _ _ := { h with }
  marks h _ := { h with }
  bind h _ _ _ _ := { h with }
  rebind h _ _ _ _ := { h with }
  drop h _ _ := { h with }
  move h _ _ _ _ := { h with }
  settings h _ budget := { h with budget := budget.elim (fun same => le_of_le_of_eq h.budget same.symm) id }
  profiles h _ := { h with }
  plans h _ := { h with }
  limits h _ := { h with }
  events h _ fewer := { h with events := le_trans fewer h.events }
  lamps h _ dark := { h with dark := by simpa [dark] using h.dark }
  watch h := { h with dark := by simp [State.enterWatch] }
  hold h _ := { h with }
  clock h _ := { h with }
  resetInput h _ := { h with }
  pending h _ := { h with }
  receiver h _ := { h with }
  reply h room _ := { h with replies := by simpa [State.reply] using room }
  sent {s x rest} h list := by
    have full : (x :: rest).length ≤ Config.transmitPlaces := by
      rw [← list]
      exact h.replies
    exact { h with replies := Nat.le_of_succ_le full }
  cleared _ := State.Bounded.cleared _

/-! ## The pairing -/

theorem RecordState.bound_seat (x : RecordState) (r : RecordNo) : (x.seat r).bound = some r := by
  cases x <;> rfl

theorem State.setPositionState_position_other {p q : PositionNo} (x : PositionState) (h : p ≠ q) :
    (s.setPositionState p x).position q = s.position q := by
  rw [State.setPositionState, State.setPosition_position_other _ _ h]

/-- A position's state written as it stands is no change. -/
theorem State.setPositionState_eq_self (s : State) (p : PositionNo) : s.setPositionState p (s.position p).state = s :=
  State.setPosition_position_eq_self s p

/-- The states of two positions are written in either order. -/
theorem State.setPositionState_comm {p q : PositionNo} (s : State) (x y : PositionState) (apart : p ≠ q) :
    (s.setPositionState p x).setPositionState q y = (s.setPositionState q y).setPositionState p x := by
  unfold State.setPositionState
  rw [State.setPosition_position_other _ _ apart, State.setPosition_position_other _ _ apart.symm]
  unfold State.setPosition
  simp only [State.setPositions_positions, Vector.set_comm _ _ (Fin.val_ne_of_ne apart)]
  rfl

/-- Of two writes to a record's index the later one stands. -/
theorem State.setRecord_setRecord (s : State) (r : RecordNo) (x y : Option Record) :
    (s.setRecord r x).setRecord r y = s.setRecord r y := by
  unfold State.setRecord
  simp only [State.setRecords_records, Vector.set_set]
  rfl

theorem State.setRecord_setPositionState (s : State) (r : RecordNo) (y : Option Record) (p : PositionNo) (x : PositionState) :
    (s.setPositionState p x).setRecord r y = (s.setRecord r y).setPositionState p x := rfl

section
variable {r : RecordNo} {p : PositionNo}

/-- A record in use is bound by the position it names (R83). -/
theorem State.Paired.bound_of_record (h : s.Paired) {x : Record} (used : s.record r = some x) :
    (s.position x.position).state.bound = some r :=
  (h.bound r x.position).1 (by rw [used]; rfl)

/-- A bound position has a record in use, which names it (R83). -/
theorem State.Paired.record_of_bound (h : s.Paired) (bound : (s.position p).state.bound = some r) :
    ∃ x, s.record r = some x ∧ x.position = p :=
  Option.map_eq_some_iff.1 ((h.bound r p).2 bound)

/-- What an entry of the pool and an entry of the rack may be written to together: neither bound, or each to the other with the
states that go together (R81-R83). -/
def Linked (r : RecordNo) (p : PositionNo) (y : Option Record) (st : PositionState) : Prop :=
  (y = none ∧ st.bound = none) ∨ ∃ x, y = some x ∧ x.position = p ∧ st = x.state.seat r

/-- A record and a position that were bound to no third one keep the pairing of all when they are written together. -/
theorem State.Paired.write (h : s.Paired) {y : Option Record} {st : PositionState}
    (record : ∀ x, s.record r = some x → x.position = p) (position : ∀ q, (s.position p).state.bound = some q → q = r)
    (linked : Linked r p y st) : ((s.setRecord r y).setPositionState p st).Paired := by
  have named : ∀ q, y.map (·.position) = some q → q = p := by
    rcases linked with ⟨rfl, -⟩ | ⟨x, rfl, rfl, -⟩ <;> simp [eq_comm]
  have binds : ∀ i, st.bound = some i → i = r := by
    rcases linked with ⟨-, free⟩ | ⟨x, -, -, rfl⟩
    · simp [free]
    · simp [RecordState.bound_seat, eq_comm]
  have both : y.map (·.position) = some p ↔ st.bound = some r := by
    rcases linked with ⟨rfl, free⟩ | ⟨x, rfl, rfl, rfl⟩
    · simp [free]
    · simp [RecordState.bound_seat]
  refine ⟨fun i q => ?_, fun i x used => ?_⟩
  · rw [State.setPositionState_record, State.setRecord_record]
    by_cases hi : r = i <;> by_cases hq : p = q
    · subst hi hq
      rwa [if_pos rfl, State.setPositionState_state]
    · subst hi
      rw [if_pos rfl, State.setPositionState_position_other _ hq]
      refine iff_of_false (fun c => hq (named q c).symm) (fun c => ?_)
      obtain ⟨x, used, rfl⟩ := h.record_of_bound c
      exact hq (record x used).symm
    · subst hq
      rw [if_neg hi, State.setPositionState_state]
      refine iff_of_false (fun c => ?_) (fun c => hi (binds i c).symm)
      exact hi (position i ((h.bound i p).1 c)).symm
    · rw [if_neg hi, State.setPositionState_position_other _ hq]
      exact h.bound i q
  · rw [State.setPositionState_record, State.setRecord_record] at used
    by_cases hi : r = i
    · subst hi
      rw [if_pos rfl] at used
      rcases linked with ⟨rfl, -⟩ | ⟨x', rfl, rfl, rfl⟩
      · cases used
      · cases used
        exact State.setPositionState_state ..
    · rw [if_neg hi] at used
      have apart : p ≠ x.position := fun c => hi (position i (c ▸ h.bound_of_record used)).symm
      rw [State.setPositionState_position_other _ apart]
      exact h.seat i x used

/-- R82, R83: a record in use rewritten at its position, with a state of the same seat. -/
theorem State.Paired.record (h : s.Paired) {x y : Record} (used : s.record r = some x) (stays : y.position = x.position)
    (seat : y.state.seat r = x.state.seat r) : (s.setRecord r (some y)).Paired := by
  have written : ((s.setRecord r (some y)).setPositionState x.position (s.position x.position).state).Paired := by
    refine h.write (fun z again => ?_) (fun q bound => ?_) (.inr ⟨y, rfl, stays, (h.seat r x used).trans seat.symm⟩)
    · rw [used] at again
      cases again
      rfl
    · rw [h.bound_of_record used] at bound
      exact (Option.some.inj bound).symm
  rwa [← State.setRecord_position s r (some y) x.position, State.setPositionState_eq_self] at written

/-- R83: a position bound to no record keeps the pairing in any state that is bound to none. -/
theorem State.Paired.position (h : s.Paired) {st : PositionState} (same : st.bound = (s.position p).state.bound)
    (noRecord : ∀ r, st.bound = some r → s.record r = none) : (s.setPositionState p st).Paired := by
  refine ⟨fun i q => ?_, fun i x used => ?_⟩
  · rw [State.setPositionState_record]
    by_cases hq : p = q
    · subst hq
      rw [State.setPositionState_state, same]
      exact h.bound i p
    · rw [State.setPositionState_position_other _ hq]
      exact h.bound i q
  · rw [State.setPositionState_record] at used
    have apart : p ≠ x.position := by
      intro here
      have bound : st.bound = some i := by rw [same, here, h.bound_of_record used]
      rw [noRecord i bound] at used
      cases used
    rw [State.setPositionState_position_other _ apart]
    exact h.seat i x used

/-- R83, R108: a position's presence and mark are no part of the pairing. -/
theorem State.Paired.marks (h : s.Paired) {x : Position} (same : x.state = (s.position p).state) : (s.setPosition p x).Paired := by
  have states : ∀ q, ((s.setPosition p x).position q).state = (s.position q).state := by
    intro q
    rw [State.setPosition_position]
    split_ifs with hq
    · rw [← hq, same]
    · rfl
  refine ⟨fun i q => ?_, fun i y used => ?_⟩
  · rw [states]
    exact h.bound i q
  · rw [states]
    exact h.seat i y used

theorem State.Paired.bind (h : s.Paired) {x : Record} {st : PositionState} (free : s.record r = none)
    (unbound : (s.position p).state.bound = none) (named : x.position = p) (seat : st = x.state.seat r) :
    ((s.setRecord r (some x)).setPositionState p st).Paired :=
  h.write (by simp [free]) (by simp [unbound]) (.inr ⟨x, rfl, named, seat⟩)

theorem State.Paired.rebind (h : s.Paired) {x y : Record} {st : PositionState} (used : s.record r = some x)
    (bound : (s.position p).state.bound = some r) (named : y.position = p ∨ y.position = x.position)
    (seat : st = y.state.seat r) : ((s.setRecord r (some y)).setPositionState p st).Paired := by
  have at_p : x.position = p := by
    obtain ⟨z, again, at_p⟩ := h.record_of_bound bound
    rw [used] at again
    cases again
    exact at_p
  refine h.write ?_ (by simp [bound, eq_comm]) (.inr ⟨y, rfl, named.elim id (·.trans at_p), seat⟩)
  simp [used, at_p]

theorem State.Paired.drop (h : s.Paired) {st : PositionState}
    (bound : (s.position p).state.bound = some r ∨ ∃ x, s.record r = some x ∧ x.position = p) (unbound : st.bound = none) :
    ((s.setRecord r none).setPositionState p st).Paired := by
  obtain ⟨x, used, rfl⟩ := bound.elim h.record_of_bound id
  exact h.write (by simp [used]) (by simp [h.bound_of_record used, eq_comm]) (.inl ⟨rfl, unbound⟩)

/-- R101: a record moves as it is dropped from its old position and bound to its new one. -/
theorem State.Paired.move (h : s.Paired) {x y : Record} (used : s.record r = some x) (unbound : (s.position p).state.bound = none)
    (named : y.position = p) (seat : y.state.seat r = .held r) :
    (((s.setRecord r (some y)).setPositionState p (.held r)).setPositionState x.position .free).Paired := by
  have apart : x.position ≠ p := by
    intro here
    rw [← here, h.bound_of_record used] at unbound
    cases unbound
  have dropped := h.drop (st := .free) (.inr ⟨x, used, rfl⟩) rfl
  have bound := dropped.bind (r := r) (p := p) (x := y) (by simp) (by rwa [State.setPositionState_position_other _ apart, State.setRecord_position])
    named seat.symm
  rwa [State.setRecord_setPositionState, State.setRecord_setRecord, State.setPositionState_comm _ _ _ apart] at bound

end

theorem State.Paired.cleared (s : State) : s.cleared.Paired where
  bound r p := by
    have free : s.cleared.record r = none := by simp [State.cleared, State.reset, State.record]
    have unbound : (s.cleared.position p).state.bound = none := by
      simp [State.cleared, State.reset, State.position, PositionState.bound]
    simp [free, unbound]
  seat r x used := by
    have free : s.cleared.record r = none := by simp [State.cleared, State.reset, State.record]
    rw [free] at used
    cases used

theorem State.Paired.kept : State.Kept State.Paired where
  bays h _ := { h with }
  arbiter h _ := { h with }
  holdQueue h _ := { h with }
  strings h _ := { h with }
  load h _ _ _ := { h with }
  scanner h _ _ := { h with }
  raise h w := by
    rw [State.raise_eq]
    exact { h with }
  relight h := { h with }
  record h used stays seat := h.record used stays seat
  position h same noRecord := h.position same noRecord
  marks h same := h.marks same
  bind h free unbound named seat := h.bind free unbound named seat
  rebind h used bound named seat := h.rebind used bound named seat
  drop h bound unbound := h.drop bound unbound
  move h used unbound named seat := h.move used unbound named seat
  settings h _ _ := { h with }
  profiles h _ := { h with }
  plans h _ := { h with }
  limits h _ := { h with }
  events h _ _ := { h with }
  lamps h _ _ := { h with }
  watch h := { h with }
  hold h _ := { h with }
  clock h _ := { h with }
  resetInput h _ := { h with }
  pending h _ := { h with }
  receiver h _ := { h with }
  reply h _ _ := { h with }
  sent h _ := { h with }
  cleared _ := State.Paired.cleared _

/-! ## The statements -/

/-- Settles O3: the bounds are kept by every update of the part, and so by every step. -/
theorem everyStepKeepsTheBounds : Obligations.EveryStepKeepsTheBounds :=
  fun _ _ bounded stepped => State.Bounded.kept.step bounded stepped

/-- Settles O4: the pairing is kept by every update of the part, and so by every step. -/
theorem everyStepKeepsRecordsAndPositionsPaired : Obligations.EveryStepKeepsRecordsAndPositionsPaired :=
  fun _ _ paired stepped => State.Paired.kept.step paired stepped

end Sys2Proof.Machine
end

section
/-! Steps, time and the full reset (00_scope.md, Conventions; 10_link_framing_and_message_reference.md, Resets from the link and the
reset input, R181-R183): the clock over an idle step and at a timer's moment, what a full reset leaves, a part held in one, and O1,
O2, O5, O6 and O8. -/

namespace Sys2Proof.Machine

variable {s : State} {m : Moment}

/-! ## Steps and time -/

/-- Settles O1: the front command is taken off the queue. -/
theorem aStepRunsTheFrontCommand : Obligations.AStepRunsTheFrontCommand := fun _ _ _ => rfl

theorem step_of_idle (idle : s.pending = []) (free : s.heldInReset = false) : step s = .next (s.setClock (s.clock.elapse 1)) := by
  unfold step State.elapse
  rw [idle, free]
  rfl

/-- A part that is not held lets the time to the moment `m` go by on its clock. -/
theorem State.reach_of_free (free : s.heldInReset = false) :
    s.reach m = s.setClock (if s.clock.ms < m then s.clock.elapse (m - s.clock.ms) else s.clock) := by
  unfold State.reach State.elapse
  simp only [free, Bool.false_eq_true, if_false]
  split_ifs <;> rfl

/-- 00_scope.md, Time: the seconds and the part of a second count the milliseconds gone by, while the count fits its 32 bits. -/
theorem Clock.elapse_counts {ms seconds part d : Nat} (within : part < 1000) (fits : seconds + d / 1000 + 1 < 2 ^ 32) :
    (Clock.elapse d ⟨ms, seconds, part⟩).intoSecond < 1000 ∧
    1000 * (Clock.elapse d ⟨ms, seconds, part⟩).seconds + (Clock.elapse d ⟨ms, seconds, part⟩).intoSecond =
      1000 * seconds + part + d := by
  simp only [Clock.elapse, countSeconds]
  refine ⟨Nat.mod_lt _ (by decide), ?_⟩
  show @Eq Nat _ _
  split_ifs <;> omega

/-- Settles O2: an idle step is one millisecond of the clock, and the clock at a timer's moment is the clock elapsed up to it. -/
theorem timePassesWithIdlingAndExpiries : Obligations.TimePassesWithIdlingAndExpiries := by
  refine ⟨fun s idle free => ⟨step_of_idle idle free, rfl, fun within => ?within, fun last fits => ?last⟩,
    fun s m free part fits => ?reach⟩
  case within =>
    simp only [Clock.elapse]
    rw [if_pos (by omega), Nat.mod_eq_of_lt (by omega)]
  case last =>
    simp only [Clock.elapse, last, countSeconds]
    rw [if_neg (by omega), if_pos (by omega)]
  case reach =>
    rw [State.reach_of_free free]
    refine ⟨rfl, ?_⟩
    simp only [State.setClock_clock]
    split_ifs with early
    · have ends : s.clock.ms + (m - s.clock.ms) = max s.clock.ms m := by
        rw [max_eq_right early.le, Nat.add_sub_cancel' early.le]
      exact ⟨ends, Clock.elapse_counts part fits⟩
    · have past : m ≤ s.clock.ms := Nat.le_of_not_lt early
      exact ⟨(max_eq_left past).symm, part, by rw [Nat.sub_eq_zero_of_le past, Nat.add_zero]⟩

/-! ## What a full reset leaves -/

theorem State.cleared_position (s : State) (p : PositionNo) : s.cleared.position p = {} := by
  simp [State.cleared, State.reset, State.position]

/-- R110: no position that is not HELD is due for a sample. -/
theorem State.due_of_not_held {p : PositionNo} (notHeld : ∀ r, (s.position p).state ≠ .held r) : s.due p = false := by
  unfold State.due
  split
  · next r held => exact absurd held (notHeld r)
  · rfl

/-- R2: a contact after a full reset is timed where it reads closed. -/
theorem ContactLevel.timed_of_cleared (debounce : Nat) (now : Moment) (raw : Bool) :
    ContactLevel.timed debounce now { raw := raw } = ⟨raw, false, if raw then some (now + debounce) else none⟩ := by
  cases raw <;> rfl

theorem State.fullReset_leaves (s : State) (cause : RestartCause) : FullResetLeaves cause s (s.fullReset cause) := by
  unfold FullResetLeaves State.fullReset State.start
  rw [State.selectRow_of_not_due fun c => State.due_of_not_held fun r => by
    rw [State.setBays_position, State.cleared_position]
    exact PositionState.noConfusion]
  have bays : s.cleared.bays.map (Bay.timersStarted s.cleared.settings.debounce s.cleared.now) = s.bays.map fun y =>
      { presence := ⟨y.presence.raw, false, if y.presence.raw then some (s.clock.ms + 30) else none⟩
        clampClosed := ⟨y.clampClosed.raw, false, if y.clampClosed.raw then some (s.clock.ms + 30) else none⟩ } := by
    rw [State.cleared, Vector.map_map]
    refine Vector.map_congr_left fun y _ => ?_
    rw [Function.comp, Bay.timersStarted, Bay.cleared, ContactLevel.timed_of_cleared, ContactLevel.timed_of_cleared]
    rfl
  rw [bays]
  rfl

/-- Settles O6: power-on is a full reset with the clock at 0, or one held by the reset input. -/
theorem powerOnLeavesTheFullResetState : Obligations.PowerOnLeavesTheFullResetState := by
  refine fun s => ⟨?_, rfl⟩
  have left := State.fullReset_leaves (s.powerUp.setResetInput .released) .powerOn
  unfold FullResetLeaves at left
  show Host.Outcome.next _ = _
  rw [left]
  simp only [State.powerUp, State.setResetInput, State.setSettings, State.setClock, Nat.zero_add]
  rfl

theorem State.reset_paired : State.reset.Paired := { State.Paired.cleared State.reset with }

/-- R16, R103: an empty rack and empty bays give no lamp a role. -/
theorem State.reset_lampRole (l : LampNo) : State.reset.lampRole l = none := by
  unfold State.lampRole
  split_ifs
  · simp [State.positionRole, State.position, State.reset]
  · simp [Bay.lampRole, State.bay, State.reset]

/-- Settles O5: the bounds and the pairing of a part just cleared, and no lamp with a role or an override. -/
theorem theResetStateIsSound : Obligations.TheResetStateIsSound := by
  refine ⟨{ State.Bounded.cleared State.reset with events := by decide, dark := by decide }, State.reset_paired,
    (State.Bounded.cleared State.reset).budget, ⟨⟨rfl, rfl⟩, rfl⟩, fun l => ?_, rfl⟩
  exact State.lampDrive_of_dark (State.lampShows_of_no_role (by simp [State.reset]) (State.reset_lampRole l))

end Sys2Proof.Machine
end

section
/-! The completed frames among the commands, a part held in full reset, and the line stop (10_link_framing_and_message_reference.md,
R178, R181, R182; 01_test_bays.md, R20; 09_events_and_the_attention_line.md, R163): O8, O7 and O9. -/

namespace Sys2Proof.Machine

variable {s : State}

/-! ## Completed frames -/

/-- R178: every command that is a completed frame is the request of its type, with the handler of that type. -/
theorem exec_of_frame {c : Instr} {type tag : Byte} {body : List Byte} (frame : c.frame = some (type, tag, body)) (s : State) :
    exec c s = .next (s.request type tag (handlerOf type body)) := by
  cases c <;> cases frame <;> rfl

/-! ## A part held in full reset (R182) -/

section
variable {cause : RestartCause}

theorem State.holdReset_bay (s : State) (cause : RestartCause) (b : BayNo) : (s.holdReset cause).bay b = (s.bay b).cleared := by
  simp [State.holdReset, State.cleared, State.bay]

theorem State.holdReset_program (s : State) (cause : RestartCause) (b : BayNo) : (s.holdReset cause).program b = none := by
  rw [State.program, State.holdReset_bay]
  rfl

/-- R19: a cleared bay runs no debounce timer. -/
theorem Bay.cleared_timer (y : Bay) (k : Contact) : (y.cleared.contact k).timer = none := by
  cases k <;> rfl

/-- R2, R182: of a held part's contact the raw level alone is written. -/
theorem State.holdReset_setBay (s : State) (cause : RestartCause) (b : BayNo) (y : Bay) :
    (s.setBay b y).holdReset cause = (s.holdReset cause).setBay b y.cleared := by
  have bays : (s.bays.set b y).map Bay.cleared = (s.bays.map Bay.cleared).set b y.cleared := Vector.map_set ..
  simp only [State.holdReset, State.cleared, State.setBay, State.setBays, State.setResetInput, bays]

theorem Bay.cleared_setContact (y : Bay) (k : Contact) (level : Bool) :
    (y.setContact k { raw := level }).cleared = y.cleared.setContact k { y.cleared.contact k with raw := level } := by
  cases k <;> rfl

/-- R182: in a part held in full reset nothing runs and nothing is received, so a command that is no contact change, power-on or
release of the input leaves it as it is. -/
theorem exec_of_held {c : Instr} (noPower : ∀ asserted, c ≠ .powerOn asserted) (noRelease : c ≠ .resetInputRelease)
    (noContact : ∀ b k closed, c ≠ .bayContactChange b k closed) : exec c (s.holdReset cause) = .next (s.holdReset cause) := by
  have noProgram := State.holdReset_program s cause
  have bay := State.holdReset_bay s cause
  cases frame : c.frame with
  | some x => exact exec_of_frame frame _
  | none =>
    cases c
    case powerOn asserted => exact absurd rfl (noPower asserted)
    case resetInputRelease => exact absurd rfl noRelease
    case bayContactChange b k closed => exact absurd rfl (noContact b k closed)
    case debounceExpiry b k => simp only [exec, execDebounceExpiry, bay, Bay.cleared_timer]
    case engageSettleExpiry b => simp only [exec, execEngageSettleExpiry, bay, Bay.cleared]
    case releaseGuardExpiry b => simp only [exec, execReleaseGuardExpiry, bay, Bay.cleared]
    case tagReaderAnswer b _ => simp only [exec, execTagReaderAnswer, noProgram]
    case readTimerExpiry b => simp only [exec, execReadTimerExpiry, noProgram]
    case restTimerExpiry b => simp only [exec, execRestTimerExpiry, noProgram]
    case coolWaitTimerExpiry b => simp only [exec, execCoolWaitTimerExpiry, noProgram]
    case monitorTimerExpiry b => simp only [exec, execMonitorTimerExpiry, noProgram]
    case durationTimerExpiry b => simp only [exec, execDurationTimerExpiry, noProgram]
    case recoveryTimerExpiry b => simp only [exec, execRecoveryTimerExpiry, noProgram]
    case sampleTimerExpiry b => simp only [exec, execSampleTimerExpiry, noProgram]
    case timeLimitExpiry b => simp only [exec, execTimeLimitExpiry, noProgram]
    case settleTimerExpiry b => simp only [exec, execSettleTimerExpiry, noProgram]
    all_goals rfl

/-- R2, R182: a contact change of a held part is one of the part it is the held reset of, but for its debouncing. -/
theorem exec_bayContactChange_of_held (b : BayNo) (k : Contact) (closed : Bool) :
    ∃ t : State, exec (.bayContactChange b k closed) (s.holdReset cause) = .next (t.holdReset cause) ∧ { t with bays := s.bays } = s := by
  by_cases same : (((s.holdReset cause).bay b).contact k).raw = closed
  · exact ⟨s, if_pos same, rfl⟩
  · refine ⟨s.setBay b ((s.bay b).setContact k { raw := closed }), ?_, rfl⟩
    rw [State.holdReset_setBay, Bay.cleared_setContact, ← State.holdReset_bay s cause b]
    exact if_neg same

/-- Settles O8: a contact change writes a raw level, and no other command finds anything to act on. -/
theorem aHeldResetOutlastsEveryOtherCommand : Obligations.AHeldResetOutlastsEveryOtherCommand := by
  intro c s cause noPower noRelease
  by_cases contact : ∃ b k closed, c = .bayContactChange b k closed
  · obtain ⟨b, k, closed, rfl⟩ := contact
    exact exec_bayContactChange_of_held b k closed
  · exact ⟨s, exec_of_held noPower noRelease fun b k closed e => contact ⟨b, k, closed, e⟩, rfl⟩

end

/-! ## Events raised one after another (R162) -/

/-- Events of enabled classes that find room join the tail in their order, all with the present time. -/
theorem State.raiseAll_room : ∀ {ws : List Happening} {s : State}, (∀ w ∈ ws, s.events.enables.allows w.cls = true) →
    s.events.queue.length + ws.length ≤ 64 →
    (s.raiseAll ws).events.queue = s.events.queue ++ ws.map fun w => ⟨s.clock.seconds, w⟩
  | [], s, _, _ => (List.append_nil _).symm
  | w :: ws, s, enabled, room => by
    rw [List.length_cons] at room
    obtain ⟨joined, enables, clock⟩ := State.raise_room s w (enabled w List.mem_cons_self) (by omega)
    rw [State.raiseAll, State.raiseAll_room (fun v hv => by rw [enables]; exact enabled v (List.mem_cons_of_mem _ hv))
      (by rw [joined, List.length_append, List.length_singleton]; omega), joined, clock, List.map_cons, List.append_assoc]
    rfl

/-! ## The line stop (R20) -/

/-- R20: the one record a bay may have at a line stop. -/
def BayState.stopRecord (b : BayNo) : BayState → Option Happening
  | .testing _ => some (.testDone b .lineStopped none none none)
  | .hold _ g => some (.resultDiscarded b g.grade)
  | _ => none

theorem BayState.endedBy_lineStopped (b : BayNo) (x : BayState) : x.endedBy b .lineStopped = (x.stopRecord b).toList := by
  cases x <;> rfl

theorem State.lineStopRecords_eq (s : State) :
    s.lineStopRecords = (List.finRange 16).filterMap fun b => (s.bay b).state.stopRecord b := by
  rw [List.filterMap_eq_flatMap_toList]
  exact List.flatMap_congr fun b _ => BayState.endedBy_lineStopped b _

theorem BayState.cls_stopRecord {b : BayNo} {x : BayState} {w : Happening} (record : x.stopRecord b = some w) : w.cls = .bay := by
  cases x <;> cases record <;> rfl

/-- R123: the part at a line stop, before its events: the bays' activity ended and a watch over. -/
def State.lineStopped (s : State) : State := if s.scanner.mode = .watch then s.stopBays.leaveWatch else s.stopBays

theorem State.lineStop_def (s : State) : s.lineStop = (s.lineStopped.raise .lineStop).raiseAll s.lineStopRecords := rfl

theorem State.lineStop_eq (s : State) : ∃ e, s.lineStop = s.lineStopped.setEvents e := by
  obtain ⟨e, he⟩ := State.raiseAll_eq s.lineStopRecords (s.lineStopped.raise .lineStop)
  refine ⟨e, ?_⟩
  rw [State.lineStop_def, he, State.raise_eq]
  rfl

/-- R48, R121, R123: at a line stop the watch, if there is one, ends in the scanner, the arbiter and the lamps. -/
theorem State.lineStopped_eq (s : State) : ∃ scanner arbiter dark, s.lineStopped =
    ((s.stopBays.setScanner scanner).setArbiter arbiter).setLamps { s.lamps with dark := dark } ∧ scanner.mode = .active := by
  unfold State.lineStopped
  cases mode : s.scanner.mode with
  | active => exact ⟨s.scanner, s.stopBays.arbiter, s.lamps.dark, rfl, mode⟩
  | watch =>
    rw [if_pos rfl]
    exact ⟨_, _, false, s.stopBays.leaveWatch_eq⟩

theorem Bay.lineStopped_eq (y : Bay) (time : Seconds) (guardEnd : Moment) : y.lineStopped time guardEnd =
    match y.state with
    | .empty | .seated | .releasing _ => y
    | .testing p => { y with
        state := .releasing guardEnd
        lastResult := some ⟨.lineStopped, none, p.flags, p.identity, none, none, time⟩ }
    | .hold _ _ => { y with state := .releasing guardEnd, resultRole := .none }
    | .engaging _ | .engaged | .faulted _ => { y with state := .releasing guardEnd } := by
  unfold Bay.lineStopped Bay.stopped
  cases y.state <;> rfl

theorem State.lineStop_leaves (s : State) : LineStopLeaves s s.lineStop := by
  obtain ⟨e, he⟩ := s.lineStop_eq
  obtain ⟨scanner, arbiter, dark, frame, active⟩ := s.lineStopped_eq
  rw [he]
  refine ⟨fun b => ?bay, ?load, ?holdQueue, ?mode, ?lamps, fun mode => ?active, fun mode => ?watch, ?rest⟩
  case bay =>
    have bay : s.stopBays.bay b = (s.bay b).lineStopped s.clock.seconds (s.clock.ms + s.settings.releaseGuard) :=
      Vector.getElem_map ..
    rw [State.setEvents_bay, frame, State.setLamps_bay, State.setArbiter_bay, State.setScanner_bay, bay]
    exact (Bay.lineStopped_eq ..).trans (by cases (s.bay b).state <;> rfl)
  case load =>
    rw [frame]
    rfl
  case holdQueue =>
    rw [frame]
    rfl
  case mode =>
    rw [frame]
    exact active
  case lamps =>
    rw [frame]
    rfl
  case active =>
    have unchanged : s.lineStopped = s.stopBays := by
      rw [State.lineStopped, mode]
      rfl
    rw [unchanged]
    exact ⟨rfl, rfl, rfl⟩
  case watch =>
    have awake : s.lineStopped = s.stopBays.leaveWatch := if_pos mode
    rw [State.setEvents_lamps, State.setEvents_scanner, State.setEvents_arbiter, awake]
    refine ⟨by rw [s.stopBays.leaveWatch_eq.1]; rfl, fun within => ?_, fun between => ?_⟩
    · have going : s.stopBays.leaveWatch =
          (s.stopBays.setScanner { s.scanner with mode := .active }).setLamps { s.lamps with dark := false } := if_neg within
      rw [going]
      exact ⟨rfl, rfl⟩
    · have selected : s.stopBays.leaveWatch =
          ((s.stopBays.setScanner { s.scanner with mode := .active }).setLamps { s.lamps with dark := false }).selectRow 0 :=
        if_pos between
      rw [selected]
      exact State.selectRow_congr 0 rfl rfl rfl rfl rfl rfl
  case rest =>
    rw [frame]
    simp [State.stopBays]

theorem State.lineStop_reports (s : State) : LineStopReports s s.lineStop := by
  intro system bay room
  obtain ⟨scanner, arbiter, dark, frame, -⟩ := s.lineStopped_eq
  have events : s.lineStopped.events = s.events := by simp [frame, State.stopBays]
  have clock : s.lineStopped.clock = s.clock := by simp [frame, State.stopBays]
  obtain ⟨joined, enables, time⟩ := State.raise_room s.lineStopped .lineStop (by rwa [events]) (by rw [events]; omega)
  have few : s.lineStopRecords.length ≤ 16 := by
    rw [State.lineStopRecords_eq]
    exact List.length_filterMap_le ..
  rw [State.lineStop_def, State.raiseAll_room, joined, events, time, clock, State.lineStopRecords_eq, List.map_filterMap,
    List.append_assoc, List.singleton_append]
  · congr 2
    refine List.filterMap_congr fun b _ => ?_
    cases (s.bay b).state <;> rfl
  · intro w hw
    rw [State.lineStopRecords_eq] at hw
    obtain ⟨b, -, record⟩ := List.mem_filterMap.1 hw
    rw [enables, events, BayState.cls_stopRecord record]
    exact bay
  · rw [joined, events, List.length_append, List.length_singleton]
    omega

/-! ## The reset input (R182) and RESET (R181) -/

/-- Settles O7: the held full reset, the line stop, and the release of each. -/
theorem theResetInputHoldsStopsAndReleasesThePart : Obligations.TheResetInputHoldsStopsAndReleasesThePart := by
  refine ⟨fun s released => ⟨fun full => ?held, fun line => ?stopped⟩, fun s => ⟨fun cause held => ?released, fun held => ?ended⟩⟩
  case held =>
    simp only [exec, execResetInputAssertion, released, full, State.holdReset, State.cleared, State.setResetInput]
    rfl
  case stopped =>
    refine ⟨_, ?_, State.lineStop_leaves _, State.lineStop_reports (s.setResetInput .heldLine)⟩
    simp only [exec, execResetInputAssertion, released, line]
    rfl
  case released =>
    refine ⟨_, ?_, State.fullReset_leaves _ cause⟩
    simp only [exec, execResetInputRelease, held]
    rfl
  case ended =>
    simp only [exec, execResetInputRelease, held]
    rfl

/-- Settles O9: the request sets the hold, a reply sent leaves the list, and the last one with the hold set brings the reset. -/
theorem aResetRequestTakesEffectWithItsReply : Obligations.AResetRequestTakesEffectWithItsReply := by
  refine ⟨fun s tag attends => ⟨?_, ?_⟩, fun s x rest list => ⟨fun waits => ?waits, ?full, ?line⟩⟩
  · exact congrArg _ (State.request_attending attends 0x02 tag _)
  · exact congrArg _ (State.request_attending attends 0x02 tag _)
  case waits =>
    simp only [exec, execReplySent, list]
    rcases waits with more | noHold
    · obtain ⟨y, ys, rfl⟩ := List.exists_cons_of_ne_nil more
      rfl
    · rw [noHold]
      cases rest <;> rfl
  case full =>
    rintro rfl hold
    refine ⟨_, ?_, State.fullReset_leaves s .full⟩
    simp only [exec, execReplySent, list, hold]
    rfl
  case line =>
    rintro rfl hold
    refine ⟨_, ?_, State.lineStop_leaves _,
      State.lineStop_reports (s.setLink { s.link with transmit := [], resetHold := none })⟩
    simp only [exec, execReplySent, list, hold]
    rfl

end Sys2Proof.Machine
end

section
/-! Reception (10_link_framing_and_message_reference.md, The frame and Reception; R173-R176): the bytes of a frame from its sync byte to
its check, byte by byte, the frames rejected, the sync byte in every stage, and O14, O15 and O16. -/

namespace Sys2Proof.Machine

variable {s : State} {now : Moment} {type tag : Byte} {body : List Byte}

/-! ## The fields of a frame (R173) -/

theorem length_checkedBytes (type tag : Byte) (body : List Byte) : (checkedBytes type tag body).length = 4 + body.length := by
  simp [checkedBytes, bytes16]
  omega

theorem frameLength_checkedBytes (fits : body.length ≤ 1024) (rest : List Byte) :
    frameLength (0xC3 :: checkedBytes type tag body ++ rest) = body.length :=
  bytes16_nat body.length (by omega)

/-- Two numbers of 16 bits with the same two bytes are the same (R173). -/
theorem bytes16_toNat_injective {x y : BitVec 16} (same : bytes16 x.toNat = bytes16 y.toNat) : x = y := by
  simp only [bytes16, List.cons.injEq, and_true] at same
  have low := bytes16_nat x.toNat x.isLt
  rw [same.1, same.2, bytes16_nat y.toNat y.isLt] at low
  exact BitVec.eq_of_toNat_eq low.symm

/-- R174, R176: a frame with all its bytes is complete exactly where its check bytes give the check of its fields. -/
theorem judgeFrame_checkedBytes (fits : body.length ≤ 1024) (cs : List Byte) :
    judgeFrame (0xC3 :: checkedBytes type tag body ++ cs) =
      if bytes16 (crc16 (checkedBytes type tag body)).toNat = cs then .complete type tag body else .checkFailure := by
  have fields : (0xC3 :: checkedBytes type tag body ++ cs).drop 5 = body ++ cs := rfl
  unfold judgeFrame
  rw [frameLength_checkedBytes fits, fields, List.take_left, ← List.drop_drop, fields, List.drop_left]
  rfl

/-! ## Bytes one after another (R175) -/

theorem Receiver.receiveAll_cons_of_pending {b : Byte} {r r' : Receiver} (bs : List Byte) (h : r.receive b now = (r', .pending)) :
    Receiver.receiveAll now (b :: bs) r = Receiver.receiveAll now bs r' := by
  rw [Receiver.receiveAll, h]

theorem Receiver.receiveAll_singleton (b : Byte) (r : Receiver) : Receiver.receiveAll now [b] r = r.receive b now := by
  rw [Receiver.receiveAll]
  split
  · next r' h => rw [h, Receiver.receiveAll]
  · rfl

/-- Where some bytes leave a frame under assembly, any first few of them do. -/
theorem Receiver.receiveAll_pending_of_append : ∀ {xs : List Byte} {r : Receiver} (ys : List Byte),
    (Receiver.receiveAll now (xs ++ ys) r).2 = .pending → (Receiver.receiveAll now xs r).2 = .pending
  | [], _, _, _ => rfl
  | x :: xs, r, ys, h => by
    rw [List.cons_append, Receiver.receiveAll] at h
    rw [Receiver.receiveAll]
    split at h
    · exact Receiver.receiveAll_pending_of_append ys h
    · next e => exact (e _ (Prod.ext rfl h)).elim

/-! ## The stages of a reception (R175, R176) -/

section
variable {r : Receiver} {b : Byte}

/-- A byte joins the frame under assembly in the stage given, and the gap timer starts again. -/
def Receiver.joined (r : Receiver) (stage : ReceiveStage) (b : Byte) (now : Moment) : Receiver × Reception :=
  (⟨stage, r.frame ++ [b], some (now + 3)⟩, .pending)

theorem Receiver.receive_length (h : r.stage = .length) : r.receive b now =
    if (r.frame ++ [b]).length < 3 then r.joined .length b now
    else if 1024 < frameLength (r.frame ++ [b]) then ({}, .sizeFailure) else r.joined .header b now := by
  unfold Receiver.receive
  rw [h]
  rfl

theorem Receiver.receive_header (h : r.stage = .header) : r.receive b now =
    if (r.frame ++ [b]).length < 5 then r.joined .header b now
    else if frameLength (r.frame ++ [b]) = 0 then r.joined .check b now else r.joined .body b now := by
  unfold Receiver.receive
  rw [h]
  rfl

theorem Receiver.receive_body (h : r.stage = .body) : r.receive b now =
    if (r.frame ++ [b]).length < 5 + frameLength (r.frame ++ [b]) then r.joined .body b now else r.joined .check b now := by
  unfold Receiver.receive
  rw [h]
  rfl

theorem Receiver.receive_check (h : r.stage = .check) : r.receive b now =
    if (r.frame ++ [b]).length < 7 + frameLength (r.frame ++ [b]) then r.joined .check b now
    else ({}, judgeFrame (r.frame ++ [b])) := by
  unfold Receiver.receive
  rw [h]
  rfl

end

/-- R175: a frame's fields take the receiver from its sync byte to CHECK. -/
theorem Receiver.receiveAll_checkedBytes (fits : body.length ≤ 1024) (rest : List Byte) :
    Receiver.receiveAll now (checkedBytes type tag body ++ rest) (Receiver.begun now) =
      Receiver.receiveAll now rest ⟨.check, 0xC3 :: checkedBytes type tag body, some (now + 3)⟩ := by
  let sized : List Byte := [0xC3, byte body.length, byte (body.length / 256)]
  have length : frameLength sized = body.length := bytes16_nat body.length (by omega)
  have fields : frameLength (sized ++ [type, tag]) = body.length := (frameLength_append sized _ (by simp [sized])).trans length
  have lengthByte : Receiver.receive (byte (body.length / 256)) now ⟨.length, [0xC3, byte body.length], some (now + 3)⟩ =
      (⟨.header, sized, some (now + 3)⟩, .pending) := by
    rw [Receiver.receive_length rfl, if_neg (by simp), if_neg]
    · rfl
    · show ¬ 1024 < frameLength sized
      omega
  have tagByte : Receiver.receive tag now ⟨.header, sized ++ [type], some (now + 3)⟩ =
      (⟨if body = [] then .check else .body, sized ++ [type, tag], some (now + 3)⟩, .pending) := by
    rw [Receiver.receive_header rfl, if_neg (by simp [sized])]
    show (if frameLength (sized ++ [type, tag]) = 0 then _ else _) = _
    rw [fields]
    by_cases empty : body = []
    · rw [if_pos (List.length_eq_zero_iff.2 empty), if_pos empty]
      rfl
    · rw [if_neg fun none => empty (List.length_eq_zero_iff.1 none), if_neg empty]
      rfl
  show Receiver.receiveAll now (byte body.length :: byte (body.length / 256) :: type :: tag :: (body ++ rest)) _ = _
  rw [Receiver.receiveAll_cons_of_pending (r' := ⟨.length, [0xC3, byte body.length], some (now + 3)⟩) _ rfl,
    Receiver.receiveAll_cons_of_pending _ lengthByte,
    Receiver.receiveAll_cons_of_pending (r' := ⟨.header, sized ++ [type], some (now + 3)⟩) _ rfl,
    Receiver.receiveAll_cons_of_pending _ tagByte]
  by_cases empty : body = []
  · rw [if_pos empty]
    subst empty
    rfl
  · rw [if_neg empty, Receiver.receiveAll_body now rest body _ _ empty (by simp [sized]) (by rw [fields]; simp [sized])]
    rfl

/-- R175: the first check byte joins the frame. -/
theorem Receiver.receive_firstCheck (fits : body.length ≤ 1024) (c : Byte) (t : Option Moment) :
    Receiver.receive c now ⟨.check, 0xC3 :: checkedBytes type tag body, t⟩ =
      (⟨.check, 0xC3 :: checkedBytes type tag body ++ [c], some (now + 3)⟩, .pending) := by
  refine (Receiver.receive_check rfl).trans (if_pos ?_)
  rw [frameLength_checkedBytes fits, List.length_append, List.length_cons, length_checkedBytes, List.length_singleton]
  omega

/-- R176: at the last check byte the frame is judged. -/
theorem Receiver.receive_lastCheck (fits : body.length ≤ 1024) (c d : Byte) (t : Option Moment) :
    Receiver.receive d now ⟨.check, 0xC3 :: checkedBytes type tag body ++ [c], t⟩ =
      ({}, judgeFrame (0xC3 :: checkedBytes type tag body ++ [c, d])) := by
  refine (Receiver.receive_check rfl).trans ((if_neg ?_).trans (by rw [List.append_assoc]; rfl))
  rw [List.append_assoc, frameLength_checkedBytes fits, List.length_append, List.length_cons, length_checkedBytes]
  simp
  omega

/-- R175, R176: a frame's fields and two check bytes are judged as the frame they make. -/
theorem Receiver.receiveAll_frame (fits : body.length ≤ 1024) (check : BitVec 16) :
    Receiver.receiveAll now (checkedBytes type tag body ++ bytes16 check.toNat) (Receiver.begun now) =
      ({}, judgeFrame (0xC3 :: checkedBytes type tag body ++ bytes16 check.toNat)) := by
  rw [Receiver.receiveAll_checkedBytes fits, bytes16, Receiver.receiveAll_cons_of_pending _ (Receiver.receive_firstCheck fits _ _),
    Receiver.receiveAll_singleton, Receiver.receive_lastCheck fits]

theorem judgeFrame_frameBytes (fits : body.length ≤ 1024) : judgeFrame (frameBytes type tag body) = .complete type tag body :=
  (judgeFrame_checkedBytes fits _).trans (if_pos rfl)

/-- R174, R176: a check other than the computed one fails the frame. -/
theorem judgeFrame_of_check_ne (fits : body.length ≤ 1024) {check : BitVec 16} (differs : crc16 (checkedBytes type tag body) ≠ check) :
    judgeFrame (0xC3 :: checkedBytes type tag body ++ bytes16 check.toNat) = .checkFailure :=
  (judgeFrame_checkedBytes fits _).trans (if_neg fun same => differs (bytes16_toNat_injective same))

/-- R175: the sync byte takes the receiver out of HUNT. -/
theorem Receiver.receiveAll_sync (now : Moment) (bs : List Byte) :
    Receiver.receiveAll now (0xC3 :: bs) {} = Receiver.receiveAll now bs (Receiver.begun now) :=
  Receiver.receiveAll_cons_of_pending bs rfl

/-- Settles O15: the fields take the receiver to CHECK, the first check byte leaves it there, and the last one completes the frame;
what leaves the frame under assembly up to its last byte leaves it so before. -/
theorem aFrameSentIsTheFrameReceived : Obligations.AFrameSentIsTheFrameReceived := by
  intro type tag body now fits
  refine ⟨?_, fun n few => ?_⟩
  · rw [frameBytes, List.cons_append]
    exact (Receiver.receiveAll_sync now _).trans ((Receiver.receiveAll_frame fits _).trans
      (Prod.ext rfl (judgeFrame_frameBytes fits)))
  · have last : frameBytes type tag body = (0xC3 :: checkedBytes type tag body ++ [byte (crc16 (checkedBytes type tag body)).toNat]) ++
        [byte ((crc16 (checkedBytes type tag body)).toNat / 256)] := by
      rw [List.append_assoc]
      rfl
    rw [last, List.length_append, List.length_singleton] at few
    refine Receiver.receiveAll_pending_of_append
      ((0xC3 :: checkedBytes type tag body ++ [byte (crc16 (checkedBytes type tag body)).toNat]).drop n) ?_
    rw [last, List.take_append_of_le_length (by omega), List.take_append_drop, List.cons_append, Receiver.receiveAll_sync,
      Receiver.receiveAll_checkedBytes fits, Receiver.receiveAll_singleton, Receiver.receive_firstCheck fits]

/-! ## Frames rejected (R175, R176) -/

/-- R176: two length bytes above 1,024 end the reception with SIZE. -/
theorem Receiver.receiveAll_size {low high : Byte} (big : 1024 < low.toNat + 256 * high.toNat) :
    Receiver.receiveAll now [low, high] (Receiver.begun now) = ({}, .sizeFailure) := by
  rw [Receiver.receiveAll_cons_of_pending (r' := ⟨.length, [0xC3, low], some (now + 3)⟩) _ rfl, Receiver.receiveAll_singleton,
    Receiver.receive_length rfl, if_neg (by simp)]
  exact if_pos big

theorem exec_frameRejectedSize_of_big (free : s.heldInReset = false) {low high : Byte} (big : 1024 < low.toNat + 256 * high.toNat) :
    exec (.frameRejectedSize low high) s = .next (s.rejectFrame .size) := by
  simp only [exec, execFrameRejectedSize, State.takeReception, Receiver.receiveAll_size big, free]
  rfl

@[simp] theorem State.reach_heldInReset (s : State) (m : Moment) : (s.reach m).heldInReset = s.heldInReset := by
  rw [State.reach_eq_setClock, State.setClock_heldInReset]

@[simp] theorem State.reach_link (s : State) (m : Moment) : (s.reach m).link = s.link := by
  rw [State.reach_eq_setClock, State.setClock_link]

/-- Settles O14: each row's bytes end the reception with its failure, and a listening part answers a rejected frame. -/
theorem aRejectedFrameIsAnsweredAndChangesNothing : Obligations.ARejectedFrameIsAnsweredAndChangesNothing := by
  refine ⟨fun s listens => ⟨fun m running => ?gap, fun low high big => ?size⟩, fun s type tag body check listens fits differs => ?check⟩
  case gap =>
    simp only [exec, execFrameRejectedGap, running]
    rw [State.rejectFrame_listening (by simpa [State.listening] using listens)]
  case size => rw [exec_frameRejectedSize_of_big listens.1 big, State.rejectFrame_listening listens]
  case check =>
    rw [← State.rejectFrame_listening listens]
    simp only [exec, execFrameRejectedCheck, State.takeReception, Receiver.receiveAll_frame fits, judgeFrame_of_check_ne fits differs,
      listens.1]
    rfl

/-! ## The sync byte (R175) -/

theorem exec_syncByte_of_free (free : s.heldInReset = false) {r : Receiver} {end_ : Reception}
    (received : s.link.receiver.receive 0xC3 s.clock.ms = (r, end_)) :
    exec .syncByte s = .next (match end_ with
      | .pending => s.setLink { s.link with receiver := r }
      | .sizeFailure => s.rejectFrame .size
      | .checkFailure => s.rejectFrame .check
      | .complete type tag body => s.request type tag (handlerOf type body)) := by
  have received : s.link.receiver.receive Config.syncByte s.now = (r, end_) := received
  simp only [exec, execSyncByte, State.takeReception, received, free]
  cases end_ <;> rfl

/-- R176: 0xC3 as the second length byte makes a length above 1,024. -/
theorem frameLength_of_sync {f : List Byte} (third : (f ++ [0xC3]).length = 3) : 1024 < frameLength (f ++ [0xC3]) := by
  have two : f.length = 2 := by simpa using third
  have last : (f ++ [0xC3]).getD 2 (0 : Byte) = 0xC3 := by simp [List.getD, two]
  unfold frameLength
  rw [last]
  simp

/-- Settles O16: the branches of the receiver's step at its stage. -/
theorem aSyncByteBeginsAFrameOnlyInHunt : Obligations.ASyncByteBeginsAFrameOnlyInHunt := by
  intro s free frame joins
  have received := fun r e => exec_syncByte_of_free (s := s) free (r := r) (end_ := e)
  have judged : ∀ {type tag : Byte} {body cs : List Byte}, body.length ≤ 1024 → cs.length = 2 →
      frame = 0xC3 :: checkedBytes type tag body ++ cs → ¬ frame.length < 7 + frameLength frame := by
    intro type tag body cs fits two whole
    rw [whole, frameLength_checkedBytes fits, List.length_append, List.length_cons, length_checkedBytes, two]
    omega
  refine ⟨fun hunt => ?hunt, fun length => ⟨fun first => ?first, fun second => ?second⟩,
    fun header => ⟨fun first => ?typed, fun second some_body => ?bodied, fun second no_body => ?bodiless⟩,
    fun inBody => ⟨fun more => ?more, fun last => ?last⟩,
    fun check => ⟨fun first => ?firstCheck, fun type tag body whole fits => ?complete,
      fun type tag body crc fits whole differs => ?fails⟩⟩
  case hunt =>
    refine received _ .pending ?_
    unfold Receiver.receive
    rw [hunt]
    rfl
  case first => exact received _ .pending ((Receiver.receive_length length).trans (if_pos first))
  case second =>
    exact received {} .sizeFailure ((Receiver.receive_length length).trans
      ((if_neg second.not_lt).trans (if_pos (frameLength_of_sync second))))
  case typed => exact received _ .pending ((Receiver.receive_header header).trans (if_pos first))
  case bodied => exact received _ .pending ((Receiver.receive_header header).trans ((if_neg (Nat.not_lt.2 second)).trans (if_neg some_body)))
  case bodiless => exact received _ .pending ((Receiver.receive_header header).trans ((if_neg (Nat.not_lt.2 second)).trans (if_pos no_body)))
  case more => exact received _ .pending ((Receiver.receive_body inBody).trans (if_pos more))
  case last => exact received _ .pending ((Receiver.receive_body inBody).trans (if_neg (Nat.not_lt.2 last)))
  case firstCheck => exact received _ .pending ((Receiver.receive_check check).trans (if_pos first))
  case complete =>
    refine received {} (.complete type tag body) ((Receiver.receive_check check).trans ((if_neg (judged fits rfl whole)).trans ?_))
    rw [show s.link.receiver.frame ++ [0xC3] = frameBytes type tag body from whole, judgeFrame_frameBytes fits]
  case fails =>
    refine received {} .checkFailure ((Receiver.receive_check check).trans ((if_neg (judged fits rfl whole)).trans ?_))
    rw [show s.link.receiver.frame ++ [0xC3] = _ from whole, judgeFrame_of_check_ne fits differs]

end Sys2Proof.Machine
end

section
/-! The dispatcher (10_link_framing_and_message_reference.md, Message reference; R177, R178, R121): frames answered, discarded and
refused, and the frame that ends a shelf watch; O10-O13. -/

namespace Sys2Proof.Machine

variable {s : State} {c : Instr} {type tag : Byte} {body : List Byte}

theorem exec_frame_of_attending (frame : c.frame = some (type, tag, body)) (attends : s.attending) :
    exec c s = .next ((handlerOf type body s.hunt).1.reply ⟨replyType type, tag, (handlerOf type body s.hunt).2⟩) := by
  rw [exec_of_frame frame, State.request_attending attends]

theorem exec_frame_of_unchanged (frame : c.frame = some (type, tag, body)) (attends : s.attending) {reply : ReplyBody}
    (unchanged : handlerOf type body s.hunt = (s.hunt, reply)) : exec c s = .next (s.answered (replyType type) tag reply) := by
  rw [exec_of_frame frame, State.request_unchanged attends type tag _ _ unchanged]

/-! ## Discarded frames (R177, R181) -/

theorem Link.not_accepts_of_deaf (deaf : s.deaf) : s.link.accepts = false := by
  unfold Link.accepts Config.transmitPlaces
  rcases deaf with hold | full
  · rw [Option.isNone_eq_false_iff.2 (Option.isSome_iff_ne_none.2 hold), Bool.false_and]
  · rw [decide_eq_false (Nat.not_lt.2 full), Bool.and_false]

theorem State.request_deaf (free : s.heldInReset = false) (deaf : s.deaf) (f : Handler) : s.request type tag f = s.hunt := by
  rw [State.request, if_neg (by simp [free]), if_pos (by simp [Link.not_accepts_of_deaf deaf])]

theorem State.rejectFrame_deaf (free : s.heldInReset = false) (deaf : s.deaf) (reason : RejectReason) :
    s.rejectFrame reason = s.hunt := by
  rw [State.rejectFrame, if_neg (by simp [free]), if_pos (by simp [Link.not_accepts_of_deaf deaf])]

/-- Settles O10: an attending part answers by the type's handler, and a deaf link discards. -/
theorem aFrameIsAnsweredOrDiscarded : Obligations.AFrameIsAnsweredOrDiscarded := by
  refine ⟨fun c s type tag body frame attends => exec_frame_of_attending frame attends, fun s free deaf =>
    ⟨fun c type tag body frame => ?frame, fun low high big => ?size⟩⟩
  case frame => rw [exec_of_frame frame, State.request_deaf free deaf, State.hunt_eq]
  case size => rw [exec_frameRejectedSize_of_big free big, State.rejectFrame_deaf free deaf, State.hunt_eq]

/-! ## The end of shelf watch (R121) -/

theorem State.wake_of_watch (watch : s.scanner.mode = .watch) (cause : WokenCause) :
    s.wake cause =
      let awake : State := { s with
        events := s.events.after s.settings.attention s.clock.ms s.clock.seconds (.woken cause)
        scanner := { s.scanner with mode := .active }
        lamps := { s.lamps with dark := false } }
      if s.scanner.stage = .betweenPasses then awake.selectRow 0 else awake := by
  rw [State.wake, if_pos watch, State.leaveWatch, State.raise_eq]
  rfl

theorem State.wake_lamps_of_watch (watch : s.scanner.mode = .watch) (cause : WokenCause) :
    (s.wake cause).lamps = { s.lamps with dark := false } := by
  rw [State.wake, if_pos watch, (State.leaveWatch_eq _).1]
  simp

/-- Settles O11: a request wakes the part first, and a wake in shelf watch is that of R121. -/
theorem aFrameEndsShelfWatchFirst : Obligations.AFrameEndsShelfWatchFirst := by
  refine ⟨fun c s type tag body frame listens watch => ⟨?_, s.wake_attending listens .link, s.wake_lamps_of_watch watch .link, ?_⟩,
    fun s cause => ⟨fun active => s.wake_active active cause, fun watch => ⟨fun inPass => ?_, fun between => ?_⟩⟩⟩
  · rw [exec_of_frame frame, exec_of_frame frame, State.request_wake listens]
  · rw [State.wake_events_of_watch watch, State.raise_eq]
    rfl
  · rw [State.wake_of_watch watch]
    exact if_neg inPass
  · rw [State.wake_of_watch watch]
    exact if_pos between

/-! ## Malformed requests (R178 steps 2 to 4) -/

theorem handlerOf_of_not_messageType (unknown : type ∉ messageTypes) : handlerOf type body = refuse .unknownType := by
  have number : type.toNat ∉ messageTypes.map BitVec.toNat := fun h => by
    obtain ⟨t, known, same⟩ := List.mem_map.1 h
    exact unknown (BitVec.eq_of_toNat_eq same ▸ known)
  unfold handlerOf
  split
  iterate 31 (next named => exact absurd (by rw [named]; decide) number)
  rfl

/-- An optional part has its bytes or none. -/
theorem partSize_eq (body : List Byte) (i size : Nat) : partSize body i size = 0 ∨ partSize body i size = size := by
  unfold partSize
  split <;> simp

theorem withFields_sized_length {α : Type} {n : Nat} {x : Option α} {f : α → Handler} (s : State) (wrong : body.length ≠ n) :
    withFields (sized body n x) f s = (s, .plain .length) :=
  withFields_error (sized_length body n x wrong) f s

/-- R178 step 3: a handler refuses a body of none of its type's lengths. -/
theorem handlerOf_of_length (s : State) {lengths : List Nat} (row : (type, lengths) ∈ bodyLengths) (wrong : body.length ∉ lengths) :
    handlerOf type body s = (s, .plain .length) := by
  have one : ∀ {n : Nat}, body.length ∉ [n] → body.length ≠ n := fun h => by simpa using h
  have every : ∀ x ∈ bodyLengths, body.length ∉ x.2 → handlerOf x.1 body s = (s, .plain .length) := by
    simp only [bodyLengths, List.forall_mem_cons]
    refine ⟨fun h => withFields_sized_length s (one h), fun h => withFields_sized_length s (one h),
      fun h => withFields_sized_length s (one h), fun h => withFields_sized_length s (one h),
      fun h => withFields_sized_length s (one h), fun h => withFields_sized_length s (one h),
      fun h => withFields_sized_length s (one h), fun h => withFields_sized_length s (one h),
      fun h => withFields_sized_length s (one h), fun h => withFields_sized_length s (one h),
      fun h => withFields_sized_length s (one h), fun h => withFields_sized_length s ?limits,
      fun h => withFields_sized_length s (one h), fun h => withFields_sized_length s ?run,
      fun h => withFields_sized_length s (one h), fun h => withFields_sized_length s (one h),
      fun h => withFields_sized_length s (one h), fun h => withFields_sized_length s (one h),
      fun h => withFields_sized_length s (one h), fun h => withFields_sized_length s ?imports,
      fun h => withFields_sized_length s (one h), fun h => withFields_sized_length s (one h),
      fun h => withFields_sized_length s (one h), fun h => withFields_sized_length s (one h),
      fun h => withFields_sized_length s (one h), fun h => withFields_sized_length s (one h),
      fun h => withFields_sized_length s (one h), fun h => withFields_sized_length s ?pattern,
      fun h => withFields_sized_length s ?roles, fun h => withFields_sized_length s ?override,
      fun h => withFields_sized_length s (one h), List.forall_mem_nil _⟩
    case limits =>
      have set := partSize_eq body 0 12
      grind
    case run =>
      have id := partSize_eq body 10 12
      grind
    case imports =>
      have id := partSize_eq body 1 12
      have capacity := partSize_eq body (2 + partSize body 1 12 + 7) 4
      have health := partSize_eq body (2 + partSize body 1 12 + 8 + partSize body (2 + partSize body 1 12 + 7) 4) 2
      grind
    case pattern =>
      have fields := partSize_eq body 1 11
      grind
    case roles =>
      have map := partSize_eq body 0 10
      grind
    case override =>
      have pattern := partSize_eq body 1 1
      grind
  exact every _ row wrong

/-- R178 step 4: a number at or above the count of the things it names is out of range. -/
theorem handlerOf_of_number (s : State) {x : Byte} {n : Nat} (row : (type, n) ∈ numberTypes) (outside : n ≤ x.toNat) :
    handlerOf type [x] s = (s, .plain .range) := by
  have every : ∀ r ∈ numberTypes, r.2 ≤ x.toNat → handlerOf r.1 [x] s = (s, .plain .range) := by
    simp only [numberTypes, List.forall_mem_cons]
    exact ⟨fun h => withFields_error (numberField_range 4 x h) _ s, fun h => withFields_error (numberField_range 4 x h) _ s,
      fun h => withFields_error (numberField_range 16 x h) _ s, fun h => withFields_error (numberField_range 16 x h) _ s,
      fun h => withFields_error (numberField_range 16 x h) _ s, fun h => withFields_error (numberField_range 16 x h) _ s,
      fun h => withFields_error (numberField_range 240 x h) _ s, fun h => withFields_error (numberField_range 240 x h) _ s,
      fun h => withFields_error (numberField_range 240 x h) _ s, fun h => withFields_error (numberField_range 6 x h) _ s,
      fun h => withFields_error (numberField_range 6 x h) _ s, fun h => withFields_error (numberField_range 6 x h) _ s,
      List.forall_mem_nil _⟩
  exact every _ row outside

/-- Settles O12: the handler of each malformed request refuses it. -/
theorem aMalformedRequestIsAnsweredAndChangesNothing : Obligations.AMalformedRequestIsAnsweredAndChangesNothing := by
  refine ⟨fun s type tag body attends unknown => ?type, fun c s type tag body lengths frame attends row wrong => ?length,
    fun c s type tag x n frame attends row outside => ?range⟩
  case type => exact exec_frame_of_unchanged rfl attends (by rw [handlerOf_of_not_messageType unknown]; rfl)
  case length =>
    have types : ∀ x ∈ bodyLengths, replyType x.1 = x.1 + 0x80 := by decide
    rw [← types _ row]
    exact exec_frame_of_unchanged frame attends (handlerOf_of_length _ row wrong)
  case range =>
    have types : ∀ x ∈ numberTypes, replyType x.1 = x.1 + 0x80 := by decide
    rw [← types _ row]
    exact exec_frame_of_unchanged frame attends (handlerOf_of_number _ row outside)

/-! ## Refusals (R178) -/

/-- The reply of a request that is refused: a status alone, other than OK and ACCEPTED. -/
def ReplyBody.refusal : ReplyBody → Prop
  | .plain status => status ≠ .ok ∧ status ≠ .accepted
  | _ => False

theorem ReplyBody.not_refusal_ok : ¬ (ReplyBody.plain .ok).refusal := fun h => h.1 rfl

theorem ReplyBody.not_refusal_accepted : ¬ (ReplyBody.plain .accepted).refusal := fun h => h.2 rfl

/-- A handler that refuses leaves the part as it is. -/
abbrev Handler.RefusesClean (f : Handler) : Prop := ∀ s : State, (f s).2.refusal → (f s).1 = s

namespace Handler.RefusesClean

theorem withFields {α : Type} {f : α → Handler} (clean : ∀ x, (f x).RefusesClean) (fields : Except Status α) :
    (Machine.withFields fields f).RefusesClean := by
  intro s
  unfold Machine.withFields
  cases fields with
  | ok x => exact clean x s
  | error status => exact fun _ => rfl

/-- A handler that changes nothing. -/
theorem of_unchanged {f : Handler} (same : ∀ s, (f s).1 = s) : f.RefusesClean := fun s _ => same s

/-- A handler that never refuses. -/
theorem of_taken {f : Handler} (taken : ∀ s, ¬ (f s).2.refusal) : f.RefusesClean := fun s h => absurd h (taken s)

theorem settingWrite (x : Nat × Nat) : (handleSettingWrite x).RefusesClean := by
  intro s refused
  unfold handleSettingWrite at refused ⊢
  split_ifs at refused ⊢
  · rfl
  · rfl
  · exact refused.elim

theorem watchEnter (x : Unit) : (handleWatchEnter x).RefusesClean := by
  intro s refused
  unfold handleWatchEnter at refused ⊢
  split_ifs at refused ⊢
  · exact absurd refused ReplyBody.not_refusal_ok
  · rfl

theorem profileLoad (x : SlotNo × Profile) : (handleProfileLoad x).RefusesClean := by
  intro s refused
  unfold handleProfileLoad at refused ⊢
  split_ifs at refused ⊢
  · rfl
  · exact absurd refused ReplyBody.not_refusal_ok

theorem profileRead (k : SlotNo) : (handleProfileRead k).RefusesClean := of_unchanged fun s => by
  unfold handleProfileRead
  split <;> rfl

theorem planLoad (x : SlotNo × Plan) : (handlePlanLoad x).RefusesClean := by
  intro s refused
  unfold handlePlanLoad at refused ⊢
  split_ifs at refused ⊢
  · rfl
  · exact absurd refused ReplyBody.not_refusal_ok

theorem planRead (k : SlotNo) : (handlePlanRead k).RefusesClean := of_unchanged fun s => by
  unfold handlePlanRead
  split <;> rfl

theorem gradeLimits (x : Option GradeLimits) : (handleGradeLimits x).RefusesClean := of_taken fun s => by
  unfold handleGradeLimits
  split <;> exact id

theorem bayEngage (b : BayNo) : (handleBayEngage b).RefusesClean := by
  intro s refused
  unfold handleBayEngage at refused ⊢
  split at refused
  · exact absurd refused ReplyBody.not_refusal_ok
  · rfl

theorem bayRun (q : RunRequest) : (handleBayRun q).RefusesClean := by
  intro s refused
  unfold handleBayRun at refused ⊢
  split_ifs at refused ⊢
  · rfl
  · rfl
  · rfl
  · exact absurd refused ReplyBody.not_refusal_accepted

theorem bayAbort (b : BayNo) : (handleBayAbort b).RefusesClean := by
  intro s refused
  unfold handleBayAbort at refused ⊢
  split at refused
  · split_ifs at refused
    · exact absurd refused ReplyBody.not_refusal_accepted
    · exact absurd refused ReplyBody.not_refusal_ok
  · rfl

theorem bayRelease (b : BayNo) : (handleBayRelease b).RefusesClean := by
  intro s refused
  unfold handleBayRelease at refused ⊢
  split at refused
  · exact absurd refused ReplyBody.not_refusal_ok
  · exact absurd refused ReplyBody.not_refusal_ok
  · exact absurd refused ReplyBody.not_refusal_ok
  · rfl

theorem poolRead (r : RecordNo) : (handlePoolRead r).RefusesClean := of_unchanged fun s => by
  unfold handlePoolRead
  split <;> rfl

theorem poolImport (f : ImportFacts) : (handlePoolImport f).RefusesClean := by
  intro s refused
  unfold handlePoolImport at refused ⊢
  split at refused
  · rfl
  · split at refused
    · exact refused.elim
    · exact refused.elim
    · rfl

theorem poolDelete (r : RecordNo) : (handlePoolDelete r).RefusesClean := by
  intro s refused
  unfold handlePoolDelete at refused ⊢
  split at refused
  · rfl
  · split at refused
    · rfl
    · exact refused.elim

theorem poolPlace (x : RecordNo × PositionNo) : (handlePoolPlace x).RefusesClean := by
  intro s refused
  unfold handlePoolPlace at refused ⊢
  split at refused
  · rfl
  · split_ifs at refused ⊢
    · exact absurd refused ReplyBody.not_refusal_ok
    · rfl

theorem stringBuild (q : StringRequest) : (handleStringBuild q).RefusesClean := by
  intro s refused
  unfold handleStringBuild at refused ⊢
  split at refused
  · rfl
  · dsimp only at refused
    split at refused
    · exact refused.elim
    · exact absurd refused ReplyBody.not_refusal_ok

theorem stringCancel (k : StringNo) : (handleStringCancel k).RefusesClean := by
  intro s refused
  unfold handleStringCancel at refused ⊢
  split at refused
  · rfl
  · exact refused.elim

theorem stringClose (k : StringNo) : (handleStringClose k).RefusesClean := by
  intro s refused
  unfold handleStringClose at refused ⊢
  split at refused
  · rfl
  · split_ifs at refused ⊢
    · exact refused.elim
    · rfl

theorem lampPattern (x : PatternNo × Option Pattern) : (handleLampPattern x).RefusesClean := of_taken fun s => by
  unfold handleLampPattern
  split <;> exact id

theorem lampRoles (x : Option (Vector PatternNo 10)) : (handleLampRoles x).RefusesClean := of_taken fun s => by
  unfold handleLampRoles
  split <;> exact id

theorem lampOverride (x : LampNo × Option PatternNo) : (handleLampOverride x).RefusesClean := of_taken fun s => by
  unfold handleLampOverride
  split <;> exact id

theorem lampRelease (x : Option LampNo) : (handleLampRelease x).RefusesClean := of_taken fun s => by
  unfold handleLampRelease
  split <;> exact id

/-- R178: every message type's handler that refuses leaves the part as it is. -/
theorem handlerOf (type : Byte) (body : List Byte) : (Machine.handlerOf type body).RefusesClean := by
  unfold Machine.handlerOf
  split
  · exact withFields (fun _ => of_unchanged fun _ => rfl) _
  · exact withFields (fun _ => of_taken fun _ => ReplyBody.not_refusal_ok) _
  · exact withFields settingWrite _
  · exact withFields (fun _ => of_unchanged fun _ => rfl) _
  · exact withFields (fun _ => of_taken fun _ => id) _
  · exact withFields (fun _ => of_taken fun _ => id) _
  · exact withFields watchEnter _
  · exact withFields profileLoad _
  · exact withFields profileRead _
  · exact withFields planLoad _
  · exact withFields planRead _
  · exact withFields gradeLimits _
  · exact withFields bayEngage _
  · exact withFields bayRun _
  · exact withFields bayAbort _
  · exact withFields bayRelease _
  · exact withFields (fun _ => of_unchanged fun _ => rfl) _
  · exact withFields poolRead _
  · exact withFields (fun _ => of_unchanged fun _ => rfl) _
  · exact withFields poolImport _
  · exact withFields poolDelete _
  · exact withFields poolPlace _
  · exact withFields (fun _ => of_unchanged fun _ => rfl) _
  · exact withFields stringBuild _
  · exact withFields (fun _ => of_unchanged fun _ => rfl) _
  · exact withFields stringCancel _
  · exact withFields stringClose _
  · exact withFields lampPattern _
  · exact withFields lampRoles _
  · exact withFields lampOverride _
  · exact withFields lampRelease _
  · exact of_unchanged fun _ => rfl

end Handler.RefusesClean

/-- Settles O13: the reply is the handler's, no handler touches the transmit list, and none that refuses changes anything. -/
theorem aRefusalChangesNothing : Obligations.ARefusalChangesNothing := by
  intro c s type tag body frame attends
  have kept : (handlerOf type body s.hunt).1.link.transmit = s.link.transmit :=
    (State.transmit_handled s.link.transmit).handlerOf type body s.hunt rfl
  refine ⟨_, (handlerOf type body s.hunt).2, exec_frame_of_attending frame attends, ?_, fun status refused not_ok not_accepted => ?_⟩
  · rw [State.reply, State.setLink_link, kept]
    rfl
  · have clean : (handlerOf type body s.hunt).1 = s.hunt :=
      Handler.RefusesClean.handlerOf type body s.hunt (by rw [refused]; exact ⟨not_ok, not_accepted⟩)
    rw [clean]
    rfl

end Sys2Proof.Machine
end

section
/-! Bodies and their fields (10_link_framing_and_message_reference.md, The frame; R173): what a field read where it was written gives,
the bodies of BAY_RUN, STRING_BUILD, LAMP_PATTERN and POOL_IMPORT, and the profiles, plans and grade limits written as bytes; O22-O25. -/

namespace Sys2Proof.Machine

/-! ## A field read where it was written (R173) -/

section
variable {l rest : List Byte} {i n : Nat}

theorem getD_of_drop {x : Byte} (at_ : l.drop i = x :: rest) : l.getD i 0 = x := by
  rw [List.getD_eq_getElem?_getD, ← Nat.add_zero i, ← List.getElem?_drop, at_]
  rfl

theorem u8_of_drop (at_ : l.drop i = out8 n ++ rest) (fits : n < 256) : u8 l i = n := by
  rw [u8, getD_of_drop at_]
  exact Nat.mod_eq_of_lt fits

theorem u16_of_drop (at_ : l.drop i = bytes16 n ++ rest) (fits : n < 65536) : u16 l i = n := by
  have next : l.drop (i + 1) = byte (n / 256) :: rest := by
    rw [← List.drop_drop, at_]
    rfl
  rw [u16, u8, u8, getD_of_drop at_, getD_of_drop next]
  exact bytes16_nat n fits

theorem u32_of_drop (at_ : l.drop i = bytes32 n ++ rest) (fits : n < 2 ^ 32) : u32 l i = n := by
  have next : l.drop (i + 2) = bytes16 (n / 65536) ++ rest := by
    rw [← List.drop_drop, at_]
    rfl
  have low : u16 l i = n % 65536 := by
    refine u16_of_drop (rest := bytes16 (n / 65536) ++ rest) (at_.trans ?_) (Nat.mod_lt _ (by decide))
    have same : bytes16 (n % 65536) = bytes16 n := by
      simp only [bytes16, byte, List.cons.injEq, and_true]
      exact ⟨BitVec.eq_of_toNat_eq (by simp), BitVec.eq_of_toNat_eq (by simp; omega)⟩
    rw [same, bytes32, List.append_assoc]
  rw [u32, low, u16_of_drop next (by omega)]
  omega

theorem markAt_of_drop {b : Bool} (at_ : l.drop i = outChoice b ++ rest) : markAt l i = some b := by
  have mark : u8 l i = b.toNat := u8_of_drop at_ (by cases b <;> decide)
  unfold markAt
  rw [mark]
  cases b <;> rfl

theorem s8_of_drop {t : Int} (at_ : l.drop i = outSigned t ++ rest) (low : -128 ≤ t) (high : t ≤ 127) : s8 l i = t := by
  rw [s8, getD_of_drop at_, BitVec.toInt_ofInt]
  exact Int.bmod_eq_of_le (by omega) (by omega)

/-- A signed number that is not negative is read as the number of its byte. -/
theorem u8_of_drop_outSigned {t : Int} (at_ : l.drop i = outSigned t ++ rest) (low : 0 ≤ t) (high : t ≤ 127) : (u8 l i : Int) = t := by
  rw [u8, getD_of_drop at_, BitVec.toNat_ofInt]
  omega

theorem outIdentity_eq (x : Identity) :
    outIdentity x = [x[0], x[1], x[2], x[3], x[4], x[5], x[6], x[7], x[8], x[9], x[10], x[11]] := by
  refine List.ext_getElem (by simp [outIdentity]) fun i h _ => ?_
  have inside : i < 12 := by simpa [outIdentity] using h
  simp only [outIdentity, Vector.getElem_toList]
  interval_cases i <;> rfl

theorem identityAt_of_drop {x : Identity} (at_ : l.drop i = outIdentity x ++ rest) : identityAt l i = x := by
  have byteOf : ∀ (k : Nat) (h : k < 12), l.getD (i + k) 0 = x[k] := by
    intro k h
    have read : (outIdentity x ++ rest)[k]? = some x[k] := by
      rw [List.getElem?_append_left (by simpa [outIdentity] using h)]
      simp [outIdentity, h]
    rw [List.getD_eq_getElem?_getD, ← List.getElem?_drop, at_, read]
    rfl
  refine Vector.ext fun k h => ?_
  rw [← byteOf k h]
  interval_cases k <;> rfl

/-- The bytes of an optional part. -/
theorem partSize_of_drop {α : Type} {f : α → List Byte} {o : Option α} {size : Nat} (at_ : l.drop i = outOptional f o ++ rest) :
    partSize l i size = if o.isSome then size else 0 := by
  cases o with
  | none =>
    have mark : u8 l i = 0 := u8_of_drop (n := 0) at_ (by decide)
    rw [partSize, if_pos mark]
    rfl
  | some x =>
    have mark : u8 l i = 1 := u8_of_drop (n := 1) (rest := f x ++ rest) (by rw [at_, outOptional, List.append_assoc]) (by decide)
    rw [partSize, if_neg (by omega)]
    rfl

theorem markAt_of_drop_optional {α : Type} {f : α → List Byte} {o : Option α} (at_ : l.drop i = outOptional f o ++ rest) :
    markAt l i = some o.isSome := by
  cases o with
  | none => exact markAt_of_drop (b := false) at_
  | some x => exact markAt_of_drop (b := true) (rest := f x ++ rest) (by rw [at_, outOptional, List.append_assoc]; rfl)

end

@[simp] theorem toFin_val {n : Nat} (x : Fin n) : toFin n x = some x := by
  simp [toFin]

theorem toFin_of_eq {n k : Nat} {x : Fin n} (same : k = x) : toFin n k = some x := by
  rw [same, toFin_val]

theorem checked_pos {α : Type} {ok : α → Bool} {x y : α} (same : x = y) (passes : ok y = true) : checked ok x = some y := by
  rw [same]
  exact if_pos passes

theorem sized_some {α : Type} {body : List Byte} {n : Nat} {fields : Option α} {x : α} (length : body.length = n)
    (fields_eq : fields = some x) : sized body n fields = .ok x := by
  unfold sized
  rw [if_neg (by simp [length]), fields_eq]

theorem sized_none {α : Type} {body : List Byte} {n : Nat} {fields : Option α} (length : body.length = n) (fails : fields = none) :
    sized body n fields = .error .range := by
  unfold sized
  rw [if_neg (by simp [length]), fails]

/-! ## Names (R173) -/

section
variable {l rest : List Byte} {i : Nat}

theorem gradeAt_of_drop {g : Grade} (at_ : l.drop i = outGrade g ++ rest) : gradeAt l i = some g := by
  have code : u8 l i = g.rank := u8_of_drop at_ (by cases g <;> decide)
  unfold gradeAt
  rw [code]
  cases g <;> rfl

theorem passGradeAt_of_drop {g : Grade} (at_ : l.drop i = outGrade g ++ rest) :
    passGradeAt l i = if g = .r then none else some g := by
  rw [passGradeAt, gradeAt_of_drop at_]
  cases g <;> rfl

theorem modeAt_of_drop {m : StringMode} (at_ : l.drop i = out8 m.code ++ rest) : modeAt l i = some m := by
  have code : u8 l i = m.code := u8_of_drop at_ (by cases m <;> decide)
  unfold modeAt
  rw [code]
  cases m <;> rfl

theorem curveAt_of_drop {c : Curve} (at_ : l.drop i = out8 c.code ++ rest) : curveAt l i = some c := by
  have code : u8 l i = c.code := u8_of_drop at_ (by cases c <;> decide)
  unfold curveAt
  rw [code]
  cases c <;> rfl

end

/-! ## The bodies of O25 -/

/-- R7: the fields of a run request in range. -/
theorem bayRunFields_bytes (q : RunRequest) (cells : 1 ≤ q.cells ∧ q.cells ≤ 24) (nameplate : 1000 ≤ q.nameplate ∧ q.nameplate ≤ 1000000)
    (nominal : 1 ≤ q.nominal ∧ q.nominal ≤ 65535) : bayRunFields q.bytes = .ok q := by
  obtain ⟨bay, plan, profile, n, capacity, volts, expected, auto⟩ := q
  dsimp only at cells nameplate nominal
  generalize body_eq : RunRequest.bytes _ = body
  have size : partSize body 10 12 = if expected.isSome then 12 else 0 := by
    subst body_eq
    exact partSize_of_drop (f := outIdentity) (rest := outChoice auto) rfl
  have bay_eq : toFin 16 (u8 body 0) = some bay := toFin_of_eq (u8_of_drop (by subst body_eq; rfl) (by omega))
  have plan_eq : toFin 4 (u8 body 1) = some plan := toFin_of_eq (u8_of_drop (by subst body_eq; rfl) (by omega))
  have profile_eq : toFin 4 (u8 body 2) = some profile := toFin_of_eq (u8_of_drop (by subst body_eq; rfl) (by omega))
  have cells_eq : checked (fun n => 1 ≤ n && n ≤ 24) (u8 body 3) = some n :=
    checked_pos (u8_of_drop (by subst body_eq; rfl) (by omega)) (by simpa using cells)
  have nameplate_eq : checked (fun n => 1000 ≤ n && n ≤ 1000000) (u32 body 4) = some capacity :=
    checked_pos (u32_of_drop (by subst body_eq; rfl) (by omega)) (by simpa using nameplate)
  have nominal_eq : checked (fun n => 1 ≤ n && n ≤ 65535) (u16 body 8) = some volts :=
    checked_pos (u16_of_drop (by subst body_eq; rfl) (by omega)) (by simpa using nominal)
  have given_eq : markAt body 10 = some expected.isSome := by
    subst body_eq
    exact markAt_of_drop_optional (f := outIdentity) (rest := outChoice auto) rfl
  unfold bayRunFields
  simp only [size, bay_eq, plan_eq, profile_eq, cells_eq, nameplate_eq, nominal_eq, given_eq, Option.bind_eq_bind, Option.bind_some]
  cases expected with
  | none =>
    subst body_eq
    exact sized_some rfl (by rw [markAt_of_drop (b := auto) (rest := []) rfl]; rfl)
  | some x =>
    have read : identityAt body 11 = x := identityAt_of_drop (rest := outChoice auto) (by subst body_eq; rfl)
    have auto_eq : markAt body 23 = some auto := by
      refine markAt_of_drop (rest := []) ?_
      rw [← body_eq, RunRequest.bytes, outOptional, outIdentity_eq]
      rfl
    refine sized_some ?_ (by rw [read]; simp [auto_eq])
    rw [← body_eq, RunRequest.bytes, outOptional, outIdentity_eq]
    rfl

/-- R127: the fields of a string request in range. -/
theorem stringBuildFields_bytes (q : StringRequest) (cells : 1 ≤ q.cells ∧ q.cells ≤ 24) (length : 2 ≤ q.length ∧ q.length ≤ 20)
    (capacity : q.capacityTolerance ≤ 100000) (resistance : q.resistanceTolerance ≤ 10000) (voltage : q.voltageTolerance ≤ 5000)
    (grade : q.minGrade ≠ .r) : stringBuildFields q.bytes = .ok q := by
  have profile_eq : toFin 4 (u8 q.bytes 0) = some q.profile := toFin_of_eq (u8_of_drop rfl (by omega))
  have cells_eq : checked (fun n => 1 ≤ n && n ≤ 24) (u8 q.bytes 1) = some q.cells :=
    checked_pos (u8_of_drop rfl (by omega)) (by simpa using cells)
  have length_eq : checked (fun n => 2 ≤ n && n ≤ 20) (u8 q.bytes 2) = some q.length :=
    checked_pos (u8_of_drop rfl (by omega)) (by simpa using length)
  have mode_eq : modeAt q.bytes 3 = some q.mode := modeAt_of_drop rfl
  have capacity_eq : checked (fun n => n ≤ 100000) (u32 q.bytes 4) = some q.capacityTolerance :=
    checked_pos (u32_of_drop rfl (by omega)) (by simpa using capacity)
  have resistance_eq : checked (fun n => n ≤ 10000) (u16 q.bytes 8) = some q.resistanceTolerance :=
    checked_pos (u16_of_drop rfl (by omega)) (by simpa using resistance)
  have voltage_eq : checked (fun n => n ≤ 5000) (u16 q.bytes 10) = some q.voltageTolerance :=
    checked_pos (u16_of_drop rfl (by omega)) (by simpa using voltage)
  have grade_eq : passGradeAt q.bytes 12 = some q.minGrade := (passGradeAt_of_drop (rest := []) rfl).trans (if_neg grade)
  refine sized_some rfl ?_
  simp only [profile_eq, cells_eq, length_eq, mode_eq, capacity_eq, resistance_eq, voltage_eq, grade_eq, Option.bind_eq_bind,
    Option.bind_some]

/-- R153: the fields of a valid pattern. -/
theorem lampPatternFields_bytes (n : PatternNo) (p : Pattern) (valid : p.valid = true) :
    lampPatternFields (byte n :: 1 :: p.bytes) = .ok (n, some p) := by
  obtain ⟨on, off, -, onLevel, offLevel, fadeIn, fadeOut⟩ := Pattern.valid_iff.1 valid
  generalize body_eq : byte n :: 1 :: p.bytes = body
  have given : u8 body 1 = 1 := u8_of_drop (n := 1) (by subst body_eq; rfl) (by decide)
  have number_eq : toFin 8 (u8 body 0) = some n := toFin_of_eq (u8_of_drop (by subst body_eq; rfl) (by omega))
  have mark_eq : markAt body 1 = some true := markAt_of_drop (by subst body_eq; rfl)
  have curve_eq : curveAt body 12 = some p.curve := curveAt_of_drop (rest := []) (by subst body_eq; rfl)
  have on_eq : u16 body 2 = p.onTime := u16_of_drop (by subst body_eq; rfl) (by omega)
  have off_eq : u16 body 4 = p.offTime := u16_of_drop (by subst body_eq; rfl) (by omega)
  have onLevel_eq : u8 body 6 = p.onIntensity := u8_of_drop (by subst body_eq; rfl) (by omega)
  have offLevel_eq : u8 body 7 = p.offIntensity := u8_of_drop (by subst body_eq; rfl) (by omega)
  have fadeIn_eq : u16 body 8 = p.fadeIn := u16_of_drop (by subst body_eq; rfl) (by omega)
  have fadeOut_eq : u16 body 10 = p.fadeOut := u16_of_drop (by subst body_eq; rfl) (by omega)
  refine sized_some ?_ ?_
  · rw [partSize, given]
    subst body_eq
    rfl
  · simp only [number_eq, mark_eq, curve_eq, on_eq, off_eq, onLevel_eq, offLevel_eq, fadeIn_eq, fadeOut_eq, Option.bind_eq_bind,
      Option.bind_some, if_true, checked, valid]

/-! ## POOL_IMPORT (R102) -/

theorem drop_add_of_drop {l t : List Byte} {i : Nat} (at_ : l.drop i = t) (k : Nat) : l.drop (i + k) = t.drop k := by
  rw [← List.drop_drop, at_]

/-- R102: capacity and health are read where both are written, or neither. -/
theorem importCapacity_of_drop {l rest : List Byte} {i : Nat} {capacity : Option Capacity}
    (at_ : l.drop i = outOptional (fun (c : Capacity) => bytes32 c.milliampHours) capacity
      ++ (outOptional (fun (c : Capacity) => bytes16 c.health) capacity ++ rest))
    (range : ∀ c, capacity = some c → c.milliampHours ≤ 1000000 ∧ c.health ≤ 1200) : importCapacity l i = some capacity := by
  have given := markAt_of_drop_optional at_
  have size : partSize l i 4 = if capacity.isSome then 4 else 0 := partSize_of_drop at_
  unfold importCapacity
  cases capacity with
  | none =>
    have health : markAt l (i + 1) = some false := markAt_of_drop (b := false) (drop_add_of_drop at_ 1)
    simp [given, size, health]
  | some c =>
    obtain ⟨charge, health⟩ := range c rfl
    have mark : markAt l (i + 1 + 4) = some true := markAt_of_drop (b := true) (drop_add_of_drop at_ 5)
    have charge_eq : u32 l (i + 1) = c.milliampHours := u32_of_drop (drop_add_of_drop at_ 1) (by omega)
    have health_eq : u16 l (i + 1 + 4 + 1) = c.health := u16_of_drop (drop_add_of_drop at_ 6) (by omega)
    simp [given, size, mark, charge_eq, health_eq, checked, charge, health]

/-- R102: the flags an import may give, read from their byte. -/
theorem importFlags_wanted (sparse unsettled downgraded : Bool) (capacity : Option Capacity) :
    importFlags (byte (2 * sparse.toNat + 4 * unsettled.toNat + 16 * downgraded.toNat)) capacity =
      { capAbsent := capacity.isNone, sparse := sparse, unsettled := unsettled, downgraded := downgraded, imported := true } := by
  cases sparse <;> cases unsettled <;> cases downgraded <;> rfl

/-- The fields of an import from its profile on. -/
def ImportTail (f : ImportFacts) : List Byte :=
  out8 f.profile ++ (out8 f.cells ++ (bytes32 f.nameplate ++ (outGrade f.grade ++
    (outOptional (fun (c : Capacity) => bytes32 c.milliampHours) f.capacity ++
    (outOptional (fun (c : Capacity) => bytes16 c.health) f.capacity ++ (bytes16 f.resistance ++ (bytes16 f.ratio ++
    (out8 (2 * f.flags.sparse.toNat + 4 * f.flags.unsettled.toNat + 16 * f.flags.downgraded.toNat) ++
    (bytes32 f.gradedTime ++ bytes32 f.restVoltage)))))))))

theorem importBody_eq (f : ImportFacts) : ImportBody f = out8 f.position ++ (outOptional outIdentity f.identity ++ ImportTail f) := by
  simp only [ImportBody, ImportTail, List.append_assoc]

theorem importBody_drop_identity (f : ImportFacts) :
    (ImportBody f).drop (2 + if f.identity.isSome then 12 else 0) = ImportTail f := by
  rw [importBody_eq]
  cases f.identity with
  | none => rfl
  | some x =>
    rw [outOptional, outIdentity_eq]
    rfl

theorem importTail_drop_capacity (f : ImportFacts) :
    (ImportTail f).drop (9 + (if f.capacity.isSome then 4 else 0) + (if f.capacity.isSome then 2 else 0)) =
      bytes16 f.resistance ++ (bytes16 f.ratio ++
        (out8 (2 * f.flags.sparse.toNat + 4 * f.flags.unsettled.toNat + 16 * f.flags.downgraded.toNat) ++
        (bytes32 f.gradedTime ++ bytes32 f.restVoltage))) := by
  unfold ImportTail
  cases f.capacity <;> rfl

/-- R102: the fields of an import in range but for its grade, with the checks on the grade left to make. -/
theorem poolImportFields_body (f : ImportFacts) (cells : 1 ≤ f.cells ∧ f.cells ≤ 24)
    (nameplate : 1000 ≤ f.nameplate ∧ f.nameplate ≤ 1000000) (resistance : f.resistance ≤ 65535) (ratio : f.ratio ≤ 9999)
    (time : f.gradedTime < 2 ^ 32) (voltage : f.restVoltage ≤ 120000)
    (range : ∀ c, f.capacity = some c → c.milliampHours ≤ 1000000 ∧ c.health ≤ 1200) :
    poolImportFields (ImportBody f) =
      if f.grade = .r ∨ (f.grade = .a ∧ f.capacity = none) then .error .range
      else .ok { f with flags := { capAbsent := f.capacity.isNone, sparse := f.flags.sparse, unsettled := f.flags.unsettled
                                   downgraded := f.flags.downgraded, imported := true } } := by
  have whole := importBody_eq f
  have atTail := importBody_drop_identity f
  have tail := importTail_drop_capacity f
  generalize ImportBody f = body at whole atTail
  have position_eq : toFin 240 (u8 body 0) = some f.position := toFin_of_eq (u8_of_drop whole (by omega))
  have mark : body.drop 1 = outOptional outIdentity f.identity ++ ImportTail f := by rw [whole]; rfl
  have given_eq : markAt body 1 = some f.identity.isSome := markAt_of_drop_optional mark
  have id_eq : partSize body 1 12 = if f.identity.isSome then 12 else 0 := partSize_of_drop mark
  have identity_eq : (if f.identity.isSome then some (identityAt body 2) else none) = f.identity := by
    cases given : f.identity with
    | none => rfl
    | some x =>
      refine congrArg some (identityAt_of_drop (rest := ImportTail f) ?_)
      rw [whole, given]
      rfl
  generalize hi : 2 + (if f.identity.isSome then 12 else 0) = i at atTail
  have at_ := fun k => drop_add_of_drop atTail k
  have profile_eq : toFin 4 (u8 body i) = some f.profile := toFin_of_eq (u8_of_drop (at_ 0) (by omega))
  have cells_eq : checked (fun n => 1 ≤ n && n ≤ 24) (u8 body (i + 1)) = some f.cells :=
    checked_pos (u8_of_drop (at_ 1) (by omega)) (by simpa using cells)
  have nameplate_eq : checked (fun n => 1000 ≤ n && n ≤ 1000000) (u32 body (i + 2)) = some f.nameplate :=
    checked_pos (u32_of_drop (at_ 2) (by omega)) (by simpa using nameplate)
  have grade_eq : passGradeAt body (i + 6) = if f.grade = .r then none else some f.grade := passGradeAt_of_drop (at_ 6)
  have capacity_eq : importCapacity body (i + 7) = some f.capacity := importCapacity_of_drop (at_ 7) range
  have cap_eq : partSize body (i + 7) 4 = if f.capacity.isSome then 4 else 0 := partSize_of_drop (at_ 7)
  have soh_eq : partSize body (i + 8 + if f.capacity.isSome then 4 else 0) 2 = if f.capacity.isSome then 2 else 0 := by
    have health : body.drop (i + (8 + if f.capacity.isSome then 4 else 0)) =
        outOptional (fun (c : Capacity) => bytes16 c.health) f.capacity ++ (bytes16 f.resistance ++ (bytes16 f.ratio ++
        (out8 (2 * f.flags.sparse.toNat + 4 * f.flags.unsettled.toNat + 16 * f.flags.downgraded.toNat) ++
        (bytes32 f.gradedTime ++ bytes32 f.restVoltage)))) := by
      rw [at_, ImportTail]
      cases f.capacity <;> rfl
    rw [Nat.add_assoc]
    exact partSize_of_drop health
  have atEnd := at_ (9 + (if f.capacity.isSome then 4 else 0) + (if f.capacity.isSome then 2 else 0))
  rw [tail, ← Nat.add_assoc, ← Nat.add_assoc] at atEnd
  have length : body.length = i + 9 + (if f.capacity.isSome then 4 else 0) + (if f.capacity.isSome then 2 else 0) + 13 := by
    rw [whole, ← hi]
    unfold ImportTail
    cases f.identity <;> cases f.capacity <;> simp [out8, outOptional, outIdentity, bytes16, bytes32, outGrade]
  unfold poolImportFields
  simp only [id_eq, hi, cap_eq, soh_eq]
  generalize i + 9 + (if f.capacity.isSome then 4 else 0) + (if f.capacity.isSome then 2 else 0) = j at atEnd length
  have after := fun k => drop_add_of_drop atEnd k
  have resistance_eq : u16 body j = f.resistance := u16_of_drop (after 0) (by omega)
  have ratio_eq : checked (fun n => n ≤ 9999) (u16 body (j + 2)) = some f.ratio :=
    checked_pos (u16_of_drop (after 2) (by omega)) (by simpa using ratio)
  have flags_eq : checked (fun b : Byte => b.toNat < 128) (body.getD (j + 4) 0) =
      some (byte (2 * f.flags.sparse.toNat + 4 * f.flags.unsettled.toNat + 16 * f.flags.downgraded.toNat)) :=
    checked_pos (getD_of_drop (after 4))
      (by cases f.flags.sparse <;> cases f.flags.unsettled <;> cases f.flags.downgraded <;> rfl)
  have time_eq : u32 body (j + 5) = f.gradedTime := u32_of_drop (after 5) time
  have voltage_eq : checked (fun n => n ≤ 120000) (u32 body (j + 9)) = some f.restVoltage :=
    checked_pos (u32_of_drop (rest := []) ((after 9).trans (List.append_nil _).symm) (by omega)) (by simpa using voltage)
  simp only [position_eq, given_eq, identity_eq, profile_eq, cells_eq, nameplate_eq, grade_eq, capacity_eq, resistance_eq, ratio_eq,
    flags_eq, time_eq, voltage_eq, importFlags_wanted, Option.bind_eq_bind, Option.bind_some]
  by_cases rejected : f.grade = .r
  · rw [if_pos rejected, if_pos (Or.inl rejected)]
    exact sized_none length rfl
  · rw [if_neg rejected, Option.bind_some]
    by_cases bare : f.grade = .a ∧ f.capacity = none
    · rw [if_pos (Or.inr bare)]
      exact sized_none length (if_neg (by simp [bare]))
    · rw [if_neg (not_or.2 ⟨rejected, bare⟩)]
      refine sized_some length (if_pos ?_)
      rw [not_and_or] at bare
      rcases bare with better | given
      · simp [better]
      · simp [Option.isSome_iff_ne_none.2 given]

/-- Settles O25: each body's fields are read where they were written. -/
theorem requestBodiesReadBackTheirFields : Obligations.RequestBodiesReadBackTheirFields := by
  refine ⟨fun q c1 c2 n1 n2 v1 v2 => bayRunFields_bytes q ⟨c1, c2⟩ ⟨n1, n2⟩ ⟨v1, v2⟩,
    fun q c1 c2 l1 l2 capacity resistance voltage grade =>
      stringBuildFields_bytes q ⟨c1, c2⟩ ⟨l1, l2⟩ capacity resistance voltage grade,
    fun n p valid => lampPatternFields_bytes n p valid,
    fun f c1 c2 n1 n2 resistance ratio time voltage range => ?_⟩
  rw [poolImportFields_body f ⟨c1, c2⟩ ⟨n1, n2⟩ resistance ratio time voltage range]
  exact ⟨fun out => if_pos out, fun graded capacity => if_neg (not_or.2 ⟨graded, fun bare => capacity bare.1 bare.2⟩)⟩

end Sys2Proof.Machine
end

section
/-! Profiles, plans and grade limits (02_the_test_program.md, Plans; 04_grading_arithmetic.md, Profiles and Grade limits; R21, R22, R64,
R65, R76): their bytes read back, their checks, and O22, O23 and O24. -/

namespace Sys2Proof.Machine

variable {s : State} {c : Instr} {type tag : Byte} {body : List Byte}

/-- A request handled to a state and a reply. -/
theorem exec_frame_of_handled (frame : c.frame = some (type, tag, body)) (attends : s.attending) {t : State} {reply : ReplyBody}
    (handled : handlerOf type body s.hunt = (t, reply)) : exec c s = .next (t.reply ⟨replyType type, tag, reply⟩) := by
  rw [exec_frame_of_attending frame attends, handled]

/-! ## Slots in use (R7, R21) -/

theorem State.program_eq_some {b : BayNo} {p : Program} : s.program b = some p ↔ (s.bay b).state = .testing p := by
  unfold State.program
  cases (s.bay b).state <;> simp

theorem State.profileInUse_iff {k : SlotNo} :
    s.profileInUse k = true ↔ ∃ b p, (s.bay b).state = .testing p ∧ p.request.profile = k := by
  simp [State.profileInUse, Option.any_eq_true, State.program_eq_some]

theorem State.planInUse_iff {k : SlotNo} : s.planInUse k = true ↔ ∃ b p, (s.bay b).state = .testing p ∧ p.request.plan = k := by
  simp [State.planInUse, Option.any_eq_true, State.program_eq_some]

/-! ## Profiles (R64) -/

theorem risesStrictly_iff : ∀ {l : List Nat}, risesStrictly l = true ↔ l.IsChain (· < ·)
  | [] => by simp [risesStrictly]
  | [_] => by simp [risesStrictly]
  | a :: b :: l => by
    rw [risesStrictly, Bool.and_eq_true, decide_eq_true_iff, risesStrictly_iff, List.isChain_cons_cons]

theorem Profile.valid_iff {f : Profile} : f.valid = true ↔
    (∀ i : Fin 21, 2000 ≤ f.breakpoints[i] ∧ f.breakpoints[i] ≤ 4600) ∧
      (∀ i : Fin 20, f.breakpoints[i.castSucc] < f.breakpoints[i.succ]) ∧ f.coefficient ≤ 200 := by
  have rises : f.breakpoints.toList.IsChain (· < ·) ↔ ∀ i : Fin 20, f.breakpoints[i.castSucc] < f.breakpoints[i.succ] := by
    rw [List.isChain_iff_getElem]
    refine ⟨fun h i => h i (by simp; omega), fun h i hi => ?_⟩
    have inside : i + 1 < 21 := by simpa using hi
    exact h ⟨i, by omega⟩
  have within : (∀ b ∈ f.breakpoints.toList, 2000 ≤ b ∧ b ≤ 4600) ↔
      ∀ i : Fin 21, 2000 ≤ f.breakpoints[i] ∧ f.breakpoints[i] ≤ 4600 := by
    rw [List.forall_mem_iff_getElem]
    exact ⟨fun h i => h i (by simp), fun h i hi => h ⟨i, by simpa using hi⟩⟩
  rw [Profile.valid, Bool.and_eq_true, Bool.and_eq_true, List.all_eq_true, risesStrictly_iff, rises, decide_eq_true_iff, and_assoc,
    ← within]
  simp only [Bool.and_eq_true, decide_eq_true_iff]

/-- The numbers of 16 bits written one after another, each at its place. -/
theorem drop_flatMap_bytes16 (rest : List Byte) : ∀ (xs : List Nat) (k : Nat) (h : k < xs.length),
    (xs.flatMap bytes16 ++ rest).drop (2 * k) = bytes16 xs[k] ++ ((xs.drop (k + 1)).flatMap bytes16 ++ rest)
  | x :: xs, 0, _ => by simp
  | x :: xs, k + 1, h => by
    rw [show 2 * (k + 1) = 2 + 2 * k from by omega, ← List.drop_drop, List.flatMap_cons, List.append_assoc]
    exact drop_flatMap_bytes16 rest xs k (by simpa using h)

/-- R64: the slot and the profile are read as they were written, where the profile is valid. -/
theorem profileLoadFields_bytes (k : SlotNo) (f : Profile) (breakpoints : ∀ b ∈ f.breakpoints.toList, b < 65536)
    (coefficient : f.coefficient < 256) :
    profileLoadFields (byte k :: f.bytes) = if f.valid = true then .ok (k, f) else .error .range := by
  generalize body_eq : byte k :: f.bytes = body
  have points : body.drop 1 = f.breakpoints.toList.flatMap bytes16 ++ out8 f.coefficient := by subst body_eq; rfl
  have point : ∀ (j : Nat) (h : j < 21), u16 body (1 + 2 * j) = f.breakpoints[j] := by
    intro j h
    have read := drop_flatMap_bytes16 (out8 f.coefficient) f.breakpoints.toList j (by simpa using h)
    rw [Vector.getElem_toList] at read
    exact u16_of_drop ((drop_add_of_drop points _).trans read) (breakpoints _ (by simp))
  have length : (f.breakpoints.toList.flatMap bytes16).length = 42 := by
    simp [List.length_flatMap, bytes16]
  have coefficient_eq : u8 body 43 = f.coefficient := by
    refine u8_of_drop (rest := []) ((drop_add_of_drop points 42).trans ?_) coefficient
    rw [List.drop_append_of_le_length length.ge, List.drop_eq_nil_of_le length.le]
    rfl
  have slot_eq : toFin 4 (u8 body 0) = some k := toFin_of_eq (u8_of_drop (rest := f.bytes) (by subst body_eq; rfl) (by omega))
  have size : body.length = 44 := by
    rw [← body_eq, Profile.bytes, List.length_cons, List.length_append, length]
    rfl
  have profile_eq : (⟨#v[u16 body (1 + 2 * 0), u16 body (1 + 2 * 1), u16 body (1 + 2 * 2), u16 body (1 + 2 * 3),
      u16 body (1 + 2 * 4), u16 body (1 + 2 * 5), u16 body (1 + 2 * 6), u16 body (1 + 2 * 7), u16 body (1 + 2 * 8),
      u16 body (1 + 2 * 9), u16 body (1 + 2 * 10), u16 body (1 + 2 * 11), u16 body (1 + 2 * 12), u16 body (1 + 2 * 13),
      u16 body (1 + 2 * 14), u16 body (1 + 2 * 15), u16 body (1 + 2 * 16), u16 body (1 + 2 * 17), u16 body (1 + 2 * 18),
      u16 body (1 + 2 * 19), u16 body (1 + 2 * 20)], u8 body 43⟩ : Profile) = f := by
    rw [coefficient_eq]
    refine congrArg (fun v => (⟨v, f.coefficient⟩ : Profile)) (Vector.ext fun j h => ?_)
    rw [← point j h]
    interval_cases j <;> rfl
  unfold profileLoadFields
  simp only [slot_eq, profile_eq, checked, Option.bind_eq_bind, Option.bind_some]
  split_ifs with valid
  · exact sized_some size rfl
  · exact sized_none size rfl

theorem exec_profileRead (attends : s.attending) (tag : Byte) (k : SlotNo) : exec (.profileRead tag [byte k]) s =
    .next (s.answered 0x91 tag (match s.profiles[k] with | some f => .profile f | none => .plain .absent)) := by
  refine exec_frame_of_unchanged (type := 0x11) rfl attends ((withFields_ok (numberField_of_fin k (by decide)) _ _).trans ?_)
  show (match s.profiles[k] with | some f => (s.hunt, ReplyBody.profile f) | none => _) = _
  cases s.profiles[k] <;> rfl

/-- Settles O22: the fields read back are the profile, and the load's checks are the ranges, then the slot's use. -/
theorem aProfileLoadedIsTheProfileRead : Obligations.AProfileLoadedIsTheProfileRead := by
  intro s tag k f attends breakpoints coefficient fits used
  have fields := profileLoadFields_bytes k f breakpoints coefficient
  refine ⟨fun unfit => ?range, fun valid inUse => ?inUse, fun valid free => ?load, ?read⟩
  case range =>
    rw [if_neg fun valid => unfit (Profile.valid_iff.1 valid)] at fields
    exact exec_frame_of_unchanged (type := 0x10) rfl attends (withFields_error fields _ _)
  case inUse =>
    rw [if_pos (Profile.valid_iff.2 valid)] at fields
    exact exec_frame_of_unchanged (type := 0x10) rfl attends
      ((withFields_ok fields _ _).trans (if_pos (State.profileInUse_iff.2 inUse)))
  case load =>
    rw [if_pos (Profile.valid_iff.2 valid)] at fields
    exact exec_frame_of_handled (type := 0x10) rfl attends
      ((withFields_ok fields _ _).trans (if_neg fun inUse => free (State.profileInUse_iff.1 inUse)))
  case read =>
    rw [exec_profileRead attends]
    cases s.profiles[k] <;> rfl

/-! ## Plans (R21) -/

section
variable {l a rest : List Byte} {i n : Nat}

/-- What follows a field. -/
theorem drop_of_drop_append (at_ : l.drop i = a ++ rest) : l.drop (i + a.length) = rest := by
  rw [← List.drop_drop, at_, List.drop_left]

/-- A number of two bytes, and what follows it. -/
theorem u16_then (at_ : l.drop i = bytes16 n ++ rest) (fits : n < 65536) : u16 l i = n ∧ l.drop (i + 2) = rest :=
  ⟨u16_of_drop at_ fits, drop_of_drop_append at_⟩

end


theorem Plan.valid_iff {p : Plan} : p.valid = true ↔ PlanFits p := by
  simp [Plan.valid, PlanFits, and_assoc]

/-- R21: the slot and the plan are read as they were written, where the plan is valid. -/
theorem planLoadFields_bytes (k : SlotNo) (p : Plan) (restTime : p.restTime < 65536) (pulseCurrent : p.pulseCurrent < 65536)
    (pulseDuration : p.pulseDuration < 65536) (recoveryTime : p.recoveryTime < 2 ^ 32) (drainCurrent : p.drainCurrent < 65536)
    (drainDepth : p.drainDepth < 65536) (floorVoltage : p.floorVoltage < 65536) (timeLimit : p.timeLimit < 65536)
    (settleWindow : p.settleWindow < 65536) (stabilityBand : p.stabilityBand < 256) (low : -128 ≤ p.windowLow ∧ p.windowLow ≤ 127)
    (high : 0 ≤ p.windowHigh ∧ p.windowHigh ≤ 127) :
    planLoadFields (byte k :: p.bytes) = if p.valid = true then .ok (k, p) else .error .range := by
  generalize body_eq : byte k :: p.bytes = body
  have read : body.drop 1 = p.bytes := by subst body_eq; rfl
  have slot_eq : toFin 4 (u8 body 0) = some k := toFin_of_eq (u8_of_drop (rest := p.bytes) (by subst body_eq; rfl) (by omega))
  simp only [Plan.bytes, List.append_assoc] at read
  obtain ⟨restTime_eq, read⟩ := u16_then read restTime
  obtain ⟨pulseCurrent_eq, read⟩ := u16_then read pulseCurrent
  obtain ⟨pulseDuration_eq, read⟩ := u16_then read pulseDuration
  have recoveryTime_eq := u32_of_drop read recoveryTime
  replace read := drop_of_drop_append read
  have drain_eq := markAt_of_drop read
  replace read := drop_of_drop_append read
  obtain ⟨drainCurrent_eq, read⟩ := u16_then read drainCurrent
  obtain ⟨drainDepth_eq, read⟩ := u16_then read drainDepth
  obtain ⟨floorVoltage_eq, read⟩ := u16_then read floorVoltage
  obtain ⟨timeLimit_eq, read⟩ := u16_then read timeLimit
  obtain ⟨settleWindow_eq, read⟩ := u16_then read settleWindow
  have stabilityBand_eq := u8_of_drop read stabilityBand
  replace read := drop_of_drop_append read
  have windowLow_eq := s8_of_drop read low.1 low.2
  replace read := drop_of_drop_append read
  have windowHigh_eq := u8_of_drop_outSigned (rest := []) (read.trans (List.append_nil _).symm) high.1 high.2
  have plan_eq : ({ restTime := u16 body 1, pulseCurrent := u16 body 3, pulseDuration := u16 body 5, recoveryTime := u32 body 7
                    drain := p.drain, drainCurrent := u16 body 12, drainDepth := u16 body 14, floorVoltage := u16 body 16
                    timeLimit := u16 body 18, settleWindow := u16 body 20, stabilityBand := u8 body 22, windowLow := s8 body 23
                    windowHigh := u8 body 24 } : Plan) = p :=
    (Plan.mk.injEq ..).mpr ⟨restTime_eq, pulseCurrent_eq, pulseDuration_eq, recoveryTime_eq, rfl, drainCurrent_eq, drainDepth_eq,
      floorVoltage_eq, timeLimit_eq, settleWindow_eq, stabilityBand_eq, windowLow_eq, windowHigh_eq⟩
  replace drain_eq : markAt body 11 = some p.drain := drain_eq
  have size : body.length = 25 := by
    rw [← body_eq]
    rfl
  unfold planLoadFields
  simp only [slot_eq, drain_eq, plan_eq, checked, Option.bind_eq_bind, Option.bind_some]
  split_ifs with valid
  · exact sized_some size rfl
  · exact sized_none size rfl

theorem exec_planRead (attends : s.attending) (tag : Byte) (k : SlotNo) : exec (.planRead tag [byte k]) s =
    .next (s.answered 0x93 tag (match s.plans[k] with | some p => .plan p | none => .plain .absent)) := by
  refine exec_frame_of_unchanged (type := 0x13) rfl attends ((withFields_ok (numberField_of_fin k (by decide)) _ _).trans ?_)
  show (match s.plans[k] with | some p => (s.hunt, ReplyBody.plan p) | none => _) = _
  cases s.plans[k] <;> rfl

/-- Settles O23: the fields read back are the plan, and the load's checks are the ranges, then the slot's use. -/
theorem aPlanLoadedIsThePlanRead : Obligations.APlanLoadedIsThePlanRead := by
  intro s tag k p attends rest pulse duration recovery current depth floor limit window band low low' high high' used
  have fields := planLoadFields_bytes k p rest pulse duration recovery current depth floor limit window band ⟨low, low'⟩ ⟨high, high'⟩
  generalize byte k :: p.bytes = body at fields ⊢
  refine ⟨fun unfit => ?range, fun valid inUse => ?inUse, fun valid free => ?load, ?read⟩
  case range =>
    rw [if_neg fun valid => unfit (Plan.valid_iff.1 valid)] at fields
    exact exec_frame_of_unchanged (type := 0x12) rfl attends (withFields_error fields _ _)
  case inUse =>
    rw [if_pos (Plan.valid_iff.2 valid)] at fields
    exact exec_frame_of_unchanged (type := 0x12) rfl attends
      ((withFields_ok fields _ _).trans (if_pos (State.planInUse_iff.2 inUse)))
  case load =>
    rw [if_pos (Plan.valid_iff.2 valid)] at fields
    exact exec_frame_of_handled (type := 0x12) rfl attends
      ((withFields_ok fields _ _).trans (if_neg fun inUse => free (State.planInUse_iff.1 inUse)))
  case read =>
    rw [exec_planRead attends]
    cases s.plans[k] <;> rfl

/-! ## Grade limits (R76) -/

/-- R76: the six ranges and the two orders of a valid set of limits. -/
theorem GradeLimits.valid_iff {l : GradeLimits} : l.valid = true ↔
    (1 ≤ l.sohC ∧ l.sohC ≤ l.sohB ∧ l.sohB ≤ l.sohA ∧ l.sohA ≤ 1200) ∧ (1 ≤ l.rrA ∧ l.rrA ≤ l.rrB ∧ l.rrB ≤ l.rrC ∧ l.rrC ≤ 9999) := by
  simp only [GradeLimits.valid, Bool.and_eq_true, decide_eq_true_iff]
  omega

theorem gradeLimitsFields_bytes (l : GradeLimits) (sohA : l.sohA < 65536) (sohB : l.sohB < 65536) (sohC : l.sohC < 65536)
    (rrA : l.rrA < 65536) (rrB : l.rrB < 65536) (rrC : l.rrC < 65536) :
    gradeLimitsFields (1 :: l.bytes) = if l.valid = true then .ok (some l) else .error .range := by
  generalize body_eq : 1 :: l.bytes = body
  have atBytes : body.drop 1 = l.bytes := by subst body_eq; rfl
  have at_ := fun j => drop_add_of_drop atBytes j
  have given : u8 body 0 = 1 := by subst body_eq; rfl
  have mark_eq : markAt body 0 = some true := markAt_of_drop (b := true) (rest := l.bytes) (by subst body_eq; rfl)
  have limits_eq : ({ sohA := u16 body 1, sohB := u16 body 3, sohC := u16 body 5
                      rrA := u16 body 7, rrB := u16 body 9, rrC := u16 body 11 } : GradeLimits) = l := by
    rw [u16_of_drop (at_ 0) sohA, u16_of_drop (at_ 2) sohB, u16_of_drop (at_ 4) sohC, u16_of_drop (at_ 6) rrA,
      u16_of_drop (at_ 8) rrB, u16_of_drop (rest := []) (at_ 10) rrC]
  have size : body.length = 1 + partSize body 0 12 := by
    rw [partSize, if_neg (by omega), ← body_eq]
    rfl
  unfold gradeLimitsFields
  simp only [mark_eq, limits_eq, checked, Option.bind_eq_bind, Option.bind_some, if_true]
  split_ifs with valid
  · exact sized_some size rfl
  · exact sized_none size rfl

/-- Settles O24: the read form answers the limits in force, and the write form replaces them where the set is valid. -/
theorem gradeLimitsAreReplacedTogether : Obligations.GradeLimitsAreReplacedTogether := by
  intro s tag l attends sohA sohB sohC rrA rrB rrC
  have fields := gradeLimitsFields_bytes l sohA sohB sohC rrA rrB rrC
  refine ⟨exec_frame_of_unchanged (type := 0x14) rfl attends rfl, ?_⟩
  split_ifs with inOrder
  · rw [if_pos (GradeLimits.valid_iff.2 inOrder)] at fields
    exact exec_frame_of_handled (type := 0x14) rfl attends (withFields_ok fields _ _)
  · rw [if_neg fun valid => inOrder (GradeLimits.valid_iff.1 valid)] at fields
    exact exec_frame_of_unchanged (type := 0x14) rfl attends (withFields_error fields _ _)

end Sys2Proof.Machine
end

section
/-! Settings, classes and watch (10_link_framing_and_message_reference.md, Settings; 09_events_and_the_attention_line.md, Class enables
and The queue; 06_rack_scanning_and_shelf_watch.md, Shelf watch; R118, R162, R164, R167, R169, R180): O18, O20 and O21. -/

namespace Sys2Proof.Machine

variable {s : State}

/-! ## The load bus and the link -/

theorem State.loadOn_setLink (s : State) (x : Link) (b : BayNo) : (s.setLink x).loadOn b = (s.loadOn b).setLink x := by
  unfold State.loadOn
  show (match s.program b with | some p => _ | none => _) = _
  cases s.program b with
  | none => rfl
  | some p =>
    dsimp only
    cases p.phase <;> rfl

theorem State.grantEntry_setLink (s : State) (x : Link) (e : GrantEntry) :
    (s.setLink x).grantEntry e = (s.grantEntry e).setLink x := by
  unfold State.grantEntry
  cases e.kind
  case restore heatsink =>
    dsimp only
    rw [← State.raise_setLink]
    rfl
  all_goals
    dsimp only
    rw [← State.loadOn_setLink]
    rfl

theorem State.examineUpTo_setLink (x : Link) : ∀ (n : Nat) (s : State), State.examineUpTo n (s.setLink x) = (State.examineUpTo n s).setLink x
  | 0, _ => rfl
  | n + 1, s => by
    cases queue : s.load.queue with
    | nil => rw [State.examineUpTo_nil n (s.setLink x) queue, State.examineUpTo_nil n s queue]
    | cons e rest =>
      rw [State.examineUpTo_cons n (s.setLink x) e rest queue, State.examineUpTo_cons n s e rest queue, apply_ite (State.setLink x),
        ← State.examineUpTo_setLink x n, ← State.grantEntry_setLink]
      rfl

/-- An examination has nothing to do with the link (R53). -/
theorem State.examine_setLink (s : State) (x : Link) : (s.setLink x).examine = s.examine.setLink x :=
  State.examineUpTo_setLink x _ s

theorem State.examine_frame (s : State) : { s.examine with load := s.load, bays := s.bays, events := s.events } = s :=
  (State.examineUpTo_others s.load.queue.length s).2

@[simp] theorem State.examine_settings (s : State) : s.examine.settings = s.settings := by
  have frame := congrArg State.settings s.examine_frame
  exact frame

@[simp] theorem State.examine_link (s : State) : s.examine.link = s.link := by
  have frame := congrArg State.link s.examine_frame
  exact frame

/-! ## The items (R180) -/

theorem Settings.permits_iff (x : Settings) (item v : Nat) : x.permits item v = true ↔ SettingTakes x v item := by
  unfold Settings.permits SettingTakes
  split <;> simp [and_assoc, Nat.le_one_iff_eq_zero_or_eq_one]

theorem State.locks_iff (s : State) (item v : Nat) : s.locks item v = true ↔ SettingHeld s v item := by
  have granted : s.load.granted.toList.any (· != 0) = true ↔ ∃ b : BayNo, s.load.granted[b] ≠ 0 := by
    rw [List.any_eq_true]
    refine ⟨fun ⟨n, member, held⟩ => ?_, fun ⟨b, held⟩ => ⟨s.load.granted[b], by simp, by simpa using held⟩⟩
    obtain ⟨i, inside, rfl⟩ := List.getElem_of_mem member
    exact ⟨⟨i, by simpa using inside⟩, by simpa using held⟩
  unfold State.locks SettingHeld
  split
  · exact decide_eq_true_iff
  · rw [Bool.or_eq_true, Bool.or_eq_true, granted]
    simp [or_assoc]
  · simp

/-- R180: the settings with one item written. -/
def Settings.written (x : Settings) (item v : Nat) : Settings :=
  match item with
  | 1 => { x with debounce := v }
  | 2 => { x with engageSettle := v }
  | 3 => { x with releaseGuard := v }
  | 4 => { x with busBudget := v }
  | 5 => { x with startWindow := v }
  | 6 => { x with derate := v }
  | 7 => { x with hysteresis := v }
  | 8 => { x with shutdown := v }
  | 9 => { x with rowDwell := v }
  | 10 => { x with sampleInterval := v }
  | 11 => { x with freshness := v }
  | 12 => { x with watchInterval := v }
  | 13 => { x with minObservation := v }
  | 14 => { x with downgrade := v }
  | 15 => { x with reject := v }
  | 16 => { x with attention := if v = 0 then .level else .pulse }
  | _ => { x with resetLine := if v = 0 then .full else .line }

/-- An item written reads as its value, and every other item as before; a mode or function has the values 0 and 1 alone. -/
theorem Settings.read_written (x : Settings) {item v j : Nat} (item_pos : 1 ≤ item) (item_le : item ≤ 17)
    (choice : 16 ≤ item → v = 0 ∨ v = 1) (j_pos : 1 ≤ j) (j_le : j ≤ 17) :
    (x.written item v).read j = if j = item then v else x.read j := by
  by_cases named : 16 ≤ item
  · rcases choice named with rfl | rfl <;> interval_cases item <;> interval_cases j <;> rfl
  · interval_cases item <;> interval_cases j <;> rfl

/-- The writes of every item but the bus budget and the attention mode change the settings alone. -/
theorem State.takeSetting_eq (s : State) {item v : Nat} (item_pos : 1 ≤ item) (item_le : item ≤ 17) (budget : item ≠ 4)
    (attention : item ≠ 16) : s.takeSetting item v = s.setSettings (s.settings.written item v) := by
  interval_cases item <;> first | rfl | contradiction

/-- R170: a mode written again changes nothing, and another one stops the pulse timer. -/
theorem State.takeSetting_attention (s : State) {v : Nat} (choice : v = 0 ∨ v = 1) :
    s.takeSetting 16 v = (s.setSettings (s.settings.written 16 v)).setEvents
      (if v = s.settings.read 16 then s.events else { s.events with pulseTimer := none }) := by
  have same : (if v = 0 then AttentionMode.level else .pulse) = s.settings.attention ↔ v = s.settings.read 16 := by
    show _ ↔ v = if s.settings.attention = .level then 0 else 1
    rcases choice with rfl | rfl <;> cases s.settings.attention <;> decide
  show State.writeAttention (if v = 0 then .level else .pulse) s = _
  unfold State.writeAttention
  by_cases again : v = s.settings.read 16
  · rw [if_pos (same.2 again), if_pos again]
    show s = (s.setSettings { s.settings with attention := if v = 0 then .level else .pulse }).setEvents s.events
    rw [same.2 again]
    rfl
  · rw [if_neg (fun h => again (same.1 h)), if_neg again]
    rfl

/-! ## The requests' fields -/

theorem settingReadFields_byte {item : Nat} (fits : item < 256) :
    settingReadFields [byte item] = if 1 ≤ item ∧ item ≤ 17 then .ok item else .error .range := by
  have read : u8 [byte item] 0 = item := Nat.mod_eq_of_lt fits
  unfold settingReadFields itemAt checked
  rw [read]
  split_ifs with inside known known <;> simp_all [sized]

theorem settingWriteFields_bytes {item v : Nat} (fits : item < 256) (range : v < 2 ^ 32) :
    settingWriteFields (byte item :: bytes32 v) = if 1 ≤ item ∧ item ≤ 17 then .ok (item, v) else .error .range := by
  have read : u8 (byte item :: bytes32 v) 0 = item := Nat.mod_eq_of_lt fits
  have value : u32 (byte item :: bytes32 v) 1 = v := u32_of_drop (rest := []) (List.append_nil _).symm range
  unfold settingWriteFields itemAt checked
  rw [read, value]
  split_ifs with inside known known <;> simp_all [sized, bytes32, bytes16]

theorem handleSettingWrite_range {s : State} {item v : Nat} (unfit : ¬ SettingTakes s.settings v item) :
    handleSettingWrite (item, v) s = (s, .plain .range) :=
  if_pos (by simpa [← Settings.permits_iff] using unfit)

theorem handleSettingWrite_held {s : State} {item v : Nat} (fit : SettingTakes s.settings v item) (held : SettingHeld s v item) :
    handleSettingWrite (item, v) s = (s, .plain .inUse) :=
  (if_neg (by simpa [Settings.permits_iff] using fit)).trans (if_pos ((s.locks_iff item v).2 held))

theorem handleSettingWrite_taken {s : State} {item v : Nat} (fit : SettingTakes s.settings v item) (free : ¬ SettingHeld s v item) :
    handleSettingWrite (item, v) s = (s.takeSetting item v, .setting item ((s.takeSetting item v).settings.read item)) :=
  (if_neg (by simpa [Settings.permits_iff] using fit)).trans (if_neg fun locked => free ((s.locks_iff item v).1 locked))

/-- A mode or a function takes the values of its two names alone. -/
theorem choice_of_settingTakes {x : Settings} {v item : Nat} (fit : SettingTakes x v item) (named : 16 ≤ item) : v = 0 ∨ v = 1 := by
  unfold SettingTakes at fit
  split at fit
  all_goals omega

/-- Settles O18: the fields read back, the two checks in their order, and what the write of each item does. -/
theorem aSettingWriteSetsItsItemAlone : Obligations.ASettingWriteSetsItsItemAlone := by
  refine ⟨fun s tag item v attends small unknown range => ?unknown, fun s tag item v attends item_pos item_le range => ?known⟩
  case unknown =>
    have outside : ¬ (1 ≤ item ∧ item ≤ 17) := by omega
    refine ⟨exec_frame_of_unchanged (type := 0x04) rfl attends (withFields_error ?_ _ _),
      exec_frame_of_unchanged (type := 0x03) rfl attends (withFields_error ?_ _ _)⟩
    · rw [settingReadFields_byte small, if_neg outside]
    · rw [settingWriteFields_bytes small range, if_neg outside]
  case known =>
    have inside : 1 ≤ item ∧ item ≤ 17 := ⟨item_pos, item_le⟩
    have fields := settingWriteFields_bytes (item := item) (by omega) range
    rw [if_pos inside] at fields
    refine ⟨?read, fun unfit => ?range, fun fit held => ?held, fun fit free => ⟨s.settings.written item v, ?_, ?_, ?_⟩⟩
    case read =>
      have readFields := settingReadFields_byte (item := item) (by omega)
      rw [if_pos inside] at readFields
      exact exec_frame_of_unchanged (type := 0x04) rfl attends (withFields_ok readFields _ _)
    case range =>
      exact exec_frame_of_unchanged (type := 0x03) rfl attends ((withFields_ok fields _ _).trans (handleSettingWrite_range unfit))
    case held =>
      exact exec_frame_of_unchanged (type := 0x03) rfl attends ((withFields_ok fields _ _).trans (handleSettingWrite_held fit held))
    case refine_1 => rw [s.settings.read_written item_pos item_le (choice_of_settingTakes fit) item_pos item_le, if_pos rfl]
    case refine_2 =>
      intro j j_pos j_le other
      rw [s.settings.read_written item_pos item_le (choice_of_settingTakes fit) j_pos j_le, if_neg other]
    case refine_3 =>
      have taken := exec_frame_of_handled (type := 0x03) rfl attends (s := s) (c := .settingWrite tag (byte item :: bytes32 v))
        ((withFields_ok fields _ _).trans (handleSettingWrite_taken (s := s.hunt) fit free))
      have reads : (s.settings.written item v).read item = v := by
        rw [s.settings.read_written item_pos item_le (choice_of_settingTakes fit) item_pos item_le, if_pos rfl]
      refine ⟨fun budget attention => ?_, fun budget => ?_, fun attention => ?_⟩
      · rw [taken, State.takeSetting_eq _ item_pos item_le budget attention, State.setSettings_settings]
        exact congrArg (fun n => Host.Outcome.next ((s.answered 0x83 tag (.setting item n)).setSettings _)) reads
      · subst budget
        have examined : s.hunt.takeSetting 4 v = (s.hunt.setSettings (s.settings.written 4 v)).examine := rfl
        rw [taken, examined, State.examine_settings, State.setSettings_settings, reads, State.reply, ← State.examine_setLink,
          State.examine_link]
        rfl
      · subst attention
        rw [taken, State.takeSetting_attention _ (choice_of_settingTakes fit (by decide)), State.setEvents_settings, State.setSettings_settings]
        exact congrArg (fun n => Host.Outcome.next (((s.answered 0x83 tag (.setting 16 n)).setSettings _).setEvents _)) reads

/-! ## Classes (R167) -/

theorem eventClassesFields_bytes (on off : Byte) :
    eventClassesFields [on, off] = if on.toNat < 32 ∧ off.toNat < 32 then .ok (on, off) else .error .range := by
  unfold eventClassesFields checked
  simp only [sized, List.getD_cons_zero, List.getD_cons_succ]
  split_ifs <;> simp_all

/-- Settles O20: the request by its two lists, and an event by its class and the queue's room. -/
theorem eventsAreQueuedByTheirClass : Obligations.EventsAreQueuedByTheirClass := by
  refine ⟨fun s tag on off attends => ⟨fun on_five off_five => ?write, fun beyond => ?range⟩, fun s w =>
    ⟨fun disabled => ?disabled, fun enabled room => ?joins, fun enabled full => ?lost⟩⟩
  case write =>
    have fields := eventClassesFields_bytes on off
    rw [if_pos ⟨on_five, off_five⟩] at fields
    exact exec_frame_of_handled (type := 0x06) rfl attends (withFields_ok fields _ _)
  case range =>
    have fields := eventClassesFields_bytes on off
    rw [if_neg (by omega)] at fields
    exact exec_frame_of_unchanged (type := 0x06) rfl attends (withFields_error fields _ _)
  case disabled => exact if_neg (by simp [disabled])
  case joins => exact (if_pos enabled).trans (if_pos room)
  case lost => exact (if_pos enabled).trans (if_neg (Nat.not_lt.2 full))

/-! ## Watch (R118) -/

theorem BayState.quiet_iff {x : BayState} : x.quiet = true ↔ x = .empty ∨ x = .seated := by
  cases x <;> simp [BayState.quiet]

/-- Settles O21: the request's one check, and the entry to shelf watch. -/
theorem watchIsEnteredWithQuietBays : Obligations.WatchIsEnteredWithQuietBays := by
  intro s tag attends
  refine ⟨fun quiet => ?enter, fun b not_empty not_seated => ?refused⟩
  case enter =>
    refine exec_frame_of_handled (c := .watchEnter tag []) (body := []) rfl attends ((withFields_ok (f := handleWatchEnter) (fields := noFields []) rfl _).trans
      (if_pos ?_))
    exact List.all_eq_true.2 fun b _ => BayState.quiet_iff.2 (quiet b)
  case refused =>
    refine exec_frame_of_unchanged (c := .watchEnter tag []) (body := []) rfl attends ((withFields_ok (f := handleWatchEnter) (fields := noFields []) rfl _).trans
      (if_neg fun quiet => ?_))
    rcases BayState.quiet_iff.1 (List.all_eq_true.1 quiet b (List.mem_finRange b)) with empty | seated
    · exact not_empty empty
    · exact not_seated seated

end Sys2Proof.Machine
end

section
/-! The converter and the load bus (03_conversions_and_the_load_bus.md; R45-R47, R49-R58): the search in cyclic order, the examination of
the grant queue, grants, aging and derating; O38-O41. -/

namespace Sys2Proof.Machine

variable {s : State}

/-! ## The search in cyclic order (R46) -/

section
variable {a : Arbiter} {now : Moment} {r w : Requester}

/-- How far a requester stands after the pointer in the cyclic order of seventeen. -/
def Requester.after (pointer r : Requester) : Nat := (r.place + 17 - pointer.place) % 17

theorem Requester.searchFrom_ascending (pointer : Requester) :
    pointer.searchFrom.Pairwise fun r x => pointer.after r ≤ pointer.after x := by
  cases pointer with
  | bay b =>
    revert b
    decide +kernel
  | rack => decide +kernel

theorem Requester.mem_searchFrom (pointer r : Requester) : r ∈ pointer.searchFrom := by
  have everyone : r ∈ Requester.order := by cases r <;> simp [Requester.order]
  rw [Requester.searchFrom, List.mem_append, or_comm, ← List.mem_append, List.take_append_drop]
  exact everyone

theorem Arbiter.grantNext_of_busy {d : Moment} (busy : a.converter = .busy r d) : a.grantNext now = a := by
  rw [Arbiter.grantNext, busy]

theorem Arbiter.grantNext_of_unmarked (free : a.converter = .free) (unmarked : ∀ r, a.marked r = false) : a.grantNext now = a := by
  have nobody : a.pointer.searchFrom.find? a.marked = none := List.find?_eq_none.2 fun r _ => by simp [unmarked r]
  rw [Arbiter.grantNext, free, nobody]

/-- R46: the search from the pointer ends at the nearest marked requester. -/
theorem Arbiter.grantNext_of_marked (free : a.converter = .free) (marked : a.marked w = true) (now : Moment) :
    ∃ r, a.grantNext now = { a with converter := .busy r (now + 2) } ∧ a.marked r = true ∧
      ∀ x, a.marked x = true → a.pointer.after r ≤ a.pointer.after x := by
  obtain ⟨r, found⟩ := Option.isSome_iff_exists.1 (List.find?_isSome.2 ⟨w, a.pointer.mem_searchFrom w, marked⟩)
  obtain ⟨marked, before, behind, order, unmarked⟩ := List.find?_eq_some_iff_append.1 found
  refine ⟨r, by rw [Arbiter.grantNext, free, found]; rfl, marked, fun x x_marked => ?_⟩
  have ascending := a.pointer.searchFrom_ascending
  have member := a.pointer.mem_searchFrom x
  rw [order] at ascending member
  rw [List.mem_append, List.mem_cons] at member
  rcases member with earlier | rfl | later
  · simpa [x_marked] using unmarked x earlier
  · exact le_rfl
  · exact List.rel_of_pairwise_cons (List.pairwise_append.1 ascending).2.1 later

theorem Arbiter.marked_setBay (marked : a.marked r = true) (c : BayNo) :
    ({ a with bayMarks := a.bayMarks.set c true } : Arbiter).marked r = true := by
  cases r with
  | rack => exact marked
  | bay b =>
    show (a.bayMarks.set c true)[b] = true
    rw [Fin.getElem_fin, Vector.getElem_set]
    split
    · rfl
    · exact marked

theorem Arbiter.marked_setRack (marked : a.marked r = true) (p : PositionNo) :
    ({ a with rackMark := some p } : Arbiter).marked r = true := by
  cases r with
  | rack => rfl
  | bay b => exact marked

theorem Arbiter.marked_bay_set (a : Arbiter) (now : Moment) (b : BayNo) : ({ a with askedAt := some now, bayMarks := a.bayMarks.set b true } : Arbiter).marked (.bay b) = true :=
  Vector.getElem_set_self ..

theorem Arbiter.asked_of_free (free : a.converter = .free) : a.asked now = Arbiter.grantNext now { a with askedAt := some now } := by
  rw [Arbiter.asked, free]

/-- R45, R46: a request of the moment at which another found the converter free is searched for together with it. -/
theorem Arbiter.asked_of_same {d : Moment} (busy : a.converter = .busy r d) (same : a.askedAt = some now) (marked : a.marked r = true) :
    a.asked now = Arbiter.grantNext now { a with converter := .free } := by
  rw [Arbiter.asked, busy]
  exact if_pos ⟨same, marked⟩

theorem Arbiter.asked_of_busy {d : Moment} (busy : a.converter = .busy r d) (apart : a.askedAt ≠ some now) : a.asked now = a := by
  rw [Arbiter.asked, busy]
  exact if_neg fun h => apart h.1

/-- R46: a second bay's request of the same moment. -/
theorem Arbiter.askBay_together (free : a.converter = .free) (asked : a.askedAt = some now) (marked : a.marked w = true) (c : BayNo) :
    (a.grantNext now).askBay c now = Arbiter.grantNext now { a with bayMarks := a.bayMarks.set c true } := by
  obtain ⟨r, granted, marked, -⟩ := Arbiter.grantNext_of_marked free marked now
  rw [granted]
  exact (Arbiter.asked_of_same (a := { a with converter := .busy r (now + 2), bayMarks := a.bayMarks.set c true }) rfl asked
    (Arbiter.marked_setBay marked c)).trans (by rw [← free])

/-- R46: the rack's request of the same moment as one before it. -/
theorem Arbiter.askRack_together (free : a.converter = .free) (asked : a.askedAt = some now) (marked : a.marked w = true)
    (p : PositionNo) : (a.grantNext now).askRack p now = Arbiter.grantNext now { a with rackMark := some p } := by
  obtain ⟨r, granted, marked, -⟩ := Arbiter.grantNext_of_marked free marked now
  rw [granted]
  exact (Arbiter.asked_of_same (a := { a with converter := .busy r (now + 2), rackMark := some p }) rfl asked
    (Arbiter.marked_setRack marked p)).trans (by rw [← free])

end

/-- Settles O38: the search ends at the nearest marked requester, and a second request of the same moment is searched for anew. -/
theorem theConverterGoesToTheNextMarkedRequester : Obligations.TheConverterGoesToTheNextMarkedRequester := by
  intro a now
  refine ⟨fun r d busy => Arbiter.grantNext_of_busy busy, fun free unmarked => Arbiter.grantNext_of_unmarked free unmarked,
    fun free w marked => Arbiter.grantNext_of_marked free marked now, fun b c p => ⟨fun free => ?free, fun r d busy apart => ?busy⟩⟩
  case free =>
    have first : a.askBay b now = Arbiter.grantNext now { a with askedAt := some now, bayMarks := a.bayMarks.set b true } :=
      Arbiter.asked_of_free free
    have rack : a.askRack p now = Arbiter.grantNext now { a with askedAt := some now, rackMark := some p } :=
      Arbiter.asked_of_free free
    have both : (a.askBay b now).askRack p now =
        Arbiter.grantNext now { a with askedAt := some now, bayMarks := a.bayMarks.set b true, rackMark := some p } := by
      rw [first]
      exact Arbiter.askRack_together (a := { a with askedAt := some now, bayMarks := a.bayMarks.set b true }) free rfl
        (a.marked_bay_set now b) p
    refine ⟨first, rack, ?_, both, ?_⟩
    · rw [first]
      exact Arbiter.askBay_together (a := { a with askedAt := some now, bayMarks := a.bayMarks.set b true }) free rfl
        (a.marked_bay_set now b) c
    · rw [both, rack]
      exact Arbiter.askBay_together (w := .rack) (a := { a with askedAt := some now, rackMark := some p }) free rfl rfl b
  case busy => exact ⟨Arbiter.asked_of_busy busy apart, Arbiter.asked_of_busy busy apart⟩

/-! ## The examination (R53) -/

section
variable {e : GrantEntry} {rest : List GrantEntry}

theorem State.fits_iff (s : State) (e : GrantEntry) : s.fits e = true ↔
    s.load.grantedSum + s.load.increase e ≤ s.settings.busBudget ∧ (e.isRestore = true ∨ s.load.starts.length < 4) := by
  rw [State.fits, Bool.and_eq_true, Bool.or_eq_true, decide_eq_true_iff, decide_eq_true_iff]
  rfl

theorem State.fits_iff_headFits (s : State) (e : GrantEntry) : s.fits e = true ↔ HeadFits e s := by
  rw [State.fits_iff]
  obtain ⟨b, kind, current⟩ := e
  cases kind <;> simp [HeadFits, Load.increase, GrantEntry.isRestore, Load.grantedSum]

theorem State.examine_nil (empty : s.load.queue = []) : s.examine = s := by
  rw [State.examine, empty, List.length_nil, State.examineUpTo]

/-- R53: an examination grants a head that fits and goes on with the queue that is left. -/
theorem State.examine_cons (queue : s.load.queue = e :: rest) :
    s.examine = if s.fits e then ((s.setLoad { s.load with queue := rest }).grantEntry e).examine else s := by
  have kept : ((s.setLoad { s.load with queue := rest }).grantEntry e).load.queue = rest := (State.grantEntry_frame _ e).2.2.1
  rw [State.examine, queue, List.length_cons, State.examineUpTo_cons _ s e rest queue, State.examine, kept]

/-- R53: an examination ends with an empty queue or a head that does not fit. -/
theorem State.not_fits_of_examine : ∀ {queue : List GrantEntry} {s : State}, s.load.queue = queue →
    s.examine.load.queue = e :: rest → s.examine.fits e = false
  | [], s, empty, left => by
    rw [State.examine_nil empty, empty] at left
    cases left
  | head :: tail, s, queue, left => by
    have kept : ((s.setLoad { s.load with queue := tail }).grantEntry head).load.queue = tail := (State.grantEntry_frame _ head).2.2.1
    rw [State.examine_cons queue] at left ⊢
    split_ifs at left ⊢ with fits
    · exact State.not_fits_of_examine kept left
    · rw [queue] at left
      cases left
      exact Bool.eq_false_iff.2 fits

end

/-- R49: a granted sum within the budget is kept within it by every operation but a write of the budget. -/
theorem State.withinBudget_stable : State.Stable State.withinBudget where
  bays h _ := h
  arbiter h _ := h
  holdQueue h _ := h
  strings h _ := h
  load h _ _ sum := by
    have within := State.sumFrom_le sum h
    exact within
  scanner h _ _ := h
  raise h w := by
    rw [State.raise_eq]
    exact h
  relight h := h
  record h _ _ _ := h
  position h _ _ := h
  marks h _ := h
  bind h _ _ _ _ := h
  rebind h _ _ _ _ := h
  drop h _ _ := h
  move h _ _ _ _ := h

/-- R50: a start list of at most four is kept so. -/
theorem State.starts_stable : State.Stable fun s => s.load.starts.length ≤ Config.startLimit where
  bays h _ := h
  arbiter h _ := h
  holdQueue h _ := h
  strings h _ := h
  load h _ starts _ := Load.length_le_of_startsFrom starts h
  scanner h _ _ := h
  raise h w := by
    rw [State.raise_eq]
    exact h
  relight h := h
  record h _ _ _ := h
  position h _ _ := h
  marks h _ := h
  bind h _ _ _ _ := h
  rebind h _ _ _ _ := h
  drop h _ _ := h
  move h _ _ _ _ := h

/-- Settles O39: the examination's equation at its head, what it keeps, and where it stops. -/
theorem anExaminationGrantsWhileTheHeadFits : Obligations.AnExaminationGrantsWhileTheHeadFits := by
  intro s
  obtain ⟨⟨granted, queue, -⟩, frame⟩ := State.examineUpTo_others s.load.queue.length s
  refine ⟨State.examine_nil, fun e rest head => ⟨fun unfit => ?stays, fun fit => ?granted⟩, State.withinBudget_stable.examine,
    State.starts_stable.examine, ⟨granted, queue⟩, fun e rest left => ?stops, frame⟩
  case stays => rw [State.examine_cons head, if_neg fun fits => unfit ((s.fits_iff_headFits e).1 fits)]
  case granted =>
    rw [State.examine_cons head, if_pos ((s.fits_iff_headFits e).2 fit)]
    rfl
  case stops =>
    have unfit := Bool.eq_false_iff.1 (State.not_fits_of_examine rfl left)
    rw [ne_eq, State.fits_iff, State.examine_settings, not_and_or, not_or, not_le, not_lt, Bool.not_eq_true] at unfit
    exact unfit

/-! ## Grants and aging (R50, R55) -/

/-- Settles O40: the load current by phase, a grant by the entry's kind, and the oldest start leaving at its expiry. -/
theorem aGrantTurnsTheLoadOnAndAStartAges : Obligations.AGrantTurnsTheLoadOnAndAStartAges := by
  refine ⟨fun s b => ⟨fun outside => ?off, fun p testing => ?current⟩, fun s b p current heatsink program =>
    ⟨fun phase => ?pulse, fun phase => ?drain, rfl⟩, fun s oldest rest starts => ?aging⟩
  case off =>
    have nobody : s.program b = none := Option.eq_none_iff_forall_ne_some.2 fun p h => outside p (State.program_eq_some.1 h)
    rw [State.loadCurrent, nobody]
  case current =>
    rw [State.loadCurrent, State.program_eq_some.2 testing]
    dsimp only
    cases p.phase <;> rfl
  case pulse =>
    have waits : ∀ l, (s.setLoad l).program b = some p := fun _ => program
    show State.loadOn b (s.setLoad _) = _
    rw [State.loadOn, waits]
    dsimp only
    rw [phase]
    rfl
  case drain =>
    have waits : ∀ l, (s.setLoad l).program b = some p := fun _ => program
    show State.loadOn b (s.setLoad _) = _
    rw [State.loadOn, waits]
    dsimp only
    rw [phase]
    rfl
  case aging =>
    have timer : s.agingTimer = some (oldest + s.settings.startWindow) := by rw [State.agingTimer, starts]; rfl
    have load : (s.reach (oldest + s.settings.startWindow)).load = s.load := by rw [State.reach_eq_setClock, State.setClock_load]
    show execAgingTimerExpiry s = _
    rw [execAgingTimerExpiry, timer]
    dsimp only
    rw [State.startAged, load, starts]
    rfl

/-! ## Derating (R57, R58) -/

theorem State.leaveGrantQueue_eq (s : State) (b : BayNo) :
    s.leaveGrantQueue b =
      let left := s.setLoad { s.load with queue := s.load.queue.filter (·.bay != b) }
      if s.load.queue.head?.map (·.bay) = some b then left.examine else left := by
  unfold State.leaveGrantQueue
  cases s.load.queue with
  | nil => rfl
  | cons e rest => simp

theorem State.restoreWaiting_iff (s : State) (b : BayNo) :
    s.restoreWaiting b = true ↔ ∃ e ∈ s.load.queue, e.isRestore = true ∧ e.bay = b := by
  simp [State.restoreWaiting]

section
variable {b : BayNo} {current setpoint : Nat} {h : Int}

theorem State.drainThermal_of_full (full : s.load.derated[b] = none) :
    s.drainThermal b current h = if s.settings.derate ≤ h then s.derateBay b current h else s := by
  rw [State.drainThermal, full]

theorem State.drainThermal_of_derated (derated : s.load.derated[b] = some setpoint) :
    s.drainThermal b current h =
      if s.restoreWaiting b then if s.settings.derate ≤ h then s.leaveGrantQueue b else s
      else if h ≤ (s.settings.derate : Int) - s.settings.hysteresis then s.joinGrantQueue ⟨b, .restore h, setpoint⟩ else s := by
  rw [State.drainThermal, derated]

end

/-- Settles O41: the thermal check by the bay's marks and thresholds, and what a return and a leaving do. -/
theorem aHotDrainIsDeratedAndRestored : Obligations.AHotDrainIsDeratedAndRestored := by
  refine ⟨fun s b current h => ⟨fun full => ?full, fun setpoint derated alone => ?derated, fun setpoint e derated queued restore own =>
    ?waiting⟩, fun s b => ⟨fun none => ?nothing, fun held => ?returned, ?leaving⟩⟩
  case full =>
    rw [State.drainThermal_of_full full]
    refine ⟨fun cool => if_neg (not_le.2 cool), fun hot half => (if_pos hot).trans ?_⟩
    rw [State.derateBay, min_eq_right half]
    rfl
  case derated =>
    have idle : ¬ s.restoreWaiting b = true := fun h => by
      obtain ⟨e, queued, restore, own⟩ := (s.restoreWaiting_iff b).1 h
      exact alone e queued restore own
    rw [State.drainThermal_of_derated derated, if_neg idle]
    refine ⟨fun warm => if_neg (not_le.2 warm), fun cool => ?_⟩
    rw [if_pos cool]
    exact ⟨fun empty => if_pos empty, fun occupied => if_neg occupied⟩
  case waiting =>
    rw [State.drainThermal_of_derated derated, if_pos ((s.restoreWaiting_iff b).2 ⟨e, queued, restore, own⟩)]
    refine ⟨fun cool => if_neg (not_le.2 cool), fun hot => ?_⟩
    rw [if_pos hot, State.leaveGrantQueue_eq]
    exact ⟨fun atHead => if_pos atHead, fun behind => if_neg behind⟩
  case nothing => exact if_pos none
  case returned => exact if_neg held
  case leaving =>
    rw [State.leaveGrantQueue_eq]
    exact ⟨fun atHead => if_pos atHead, fun behind => if_neg behind⟩

end Sys2Proof.Machine
end

section
/-! Bays (01_test_bays.md; R1, R5-R10, R14, R25): the clamp's requests and timers, the start, the abort and the fault of a program; O26,
O27, O28 and O30. -/

namespace Sys2Proof.Machine

variable {s : State} {b : BayNo}

/-! ## A bay written -/

@[simp] theorem State.setBay_setBay (s : State) (b : BayNo) (x y : Bay) : (s.setBay b x).setBay b y = s.setBay b y := by
  unfold State.setBay
  rw [State.setBays_bays, Vector.set_set]
  rfl

theorem State.setBayState_eq (s : State) (b : BayNo) (x : BayState) : s.setBayState b x = s.setBay b { s.bay b with state := x } := rfl

theorem State.raise_setBay (s : State) (b : BayNo) (x : Bay) (w : Happening) : (s.setBay b x).raise w = (s.raise w).setBay b x := by
  rw [State.raise_eq, State.raise_eq]
  rfl

/-! ## The clamp (R1, R5-R10) -/

theorem exec_bayEngage (attends : s.attending) (tag : Byte) (b : BayNo) :
    exec (.bayEngage tag [byte b]) s =
      .next ((handleBayEngage b s.hunt).1.reply ⟨0xA0, tag, (handleBayEngage b s.hunt).2⟩) :=
  exec_frame_of_handled (c := .bayEngage tag [byte b]) rfl attends (withFields_ok (numberField_of_fin b (by decide)) _ _)

theorem exec_bayRelease (attends : s.attending) (tag : Byte) (b : BayNo) :
    exec (.bayRelease tag [byte b]) s =
      .next ((handleBayRelease b s.hunt).1.reply ⟨0xA3, tag, (handleBayRelease b s.hunt).2⟩) :=
  exec_frame_of_handled (c := .bayRelease tag [byte b]) rfl attends (withFields_ok (numberField_of_fin b (by decide)) _ _)

theorem handleBayEngage_of_seated (seated : (s.bay b).state = .seated) :
    handleBayEngage b s = (s.setBayState b (.engaging (s.now + s.settings.engageSettle)), .plain .ok) := by
  rw [handleBayEngage, seated]

theorem handleBayEngage_of_not_seated (other : (s.bay b).state ≠ .seated) : handleBayEngage b s = (s, .plain .state) := by
  unfold handleBayEngage
  split
  · next seated => exact absurd seated other
  · rfl

/-- R9: a HOLD bay's discarded result and its open clamp. -/
theorem State.discardHold_openClamp (s : State) (b : BayNo) (g : GradedResult) :
    (s.discardHold b g).openClamp b = ((s.setHoldQueue (s.holdQueue.filter (· != b))).setBay b { s.bay b with
      state := .releasing (s.clock.ms + s.settings.releaseGuard), resultRole := .none }).raise (.resultDiscarded b g.grade) := by
  rw [State.discardHold, State.openClamp, State.setBayState_eq, State.raise_bay, State.setBay_bay_self, ← State.raise_setBay,
    State.setBay_setBay, State.raise_now, State.raise_settings]
  rfl

/-- Settles O26: the clamp command by state, the two requests' handlers by state, and the two timers' expiries. -/
theorem aBaysClampClosesAndOpens : Obligations.ABaysClampClosesAndOpens := by
  refine ⟨fun s b => ?command, fun s tag b attends => ⟨fun seated => ?engage, fun other => ?refused⟩, fun s tag b attends => ?release,
    fun s b m => ⟨fun engaging => ⟨fun closed => ?engaged, fun open_ => ?fault⟩,
      fun releasing => ⟨fun present => ?seat, fun gone => ?vacate⟩⟩⟩
  case command =>
    unfold State.clampCommand
    cases (s.bay b).state <;> rfl
  case engage =>
    rw [exec_bayEngage attends, handleBayEngage_of_seated (s := s.hunt) seated]
    rfl
  case refused =>
    rw [exec_bayEngage attends, handleBayEngage_of_not_seated (s := s.hunt) other]
    rfl
  case release =>
    rw [exec_bayRelease attends]
    unfold handleBayRelease
    rw [State.hunt_bay]
    cases (s.bay b).state
    case hold q g =>
      dsimp only
      rw [State.discardHold_openClamp, State.reply, ← State.raise_setLink, State.raise_link]
      rfl
    all_goals rfl
  case engaged =>
    show execEngageSettleExpiry b s = _
    rw [execEngageSettleExpiry, engaging]
    dsimp only
    rw [State.engageSettled, State.reach_bay, if_pos closed, State.setBayState_eq, State.reach_bay]
  case fault =>
    show execEngageSettleExpiry b s = _
    rw [execEngageSettleExpiry, engaging]
    dsimp only
    rw [State.engageSettled, State.reach_bay, if_neg (by simp [open_])]
  case seat =>
    show execReleaseGuardExpiry b s = _
    rw [execReleaseGuardExpiry, releasing]
    dsimp only
    rw [State.guardOver, State.reach_bay, if_pos present, State.seat, State.setBayState_eq, State.reach_bay]
  case vacate =>
    show execReleaseGuardExpiry b s = _
    rw [execReleaseGuardExpiry, releasing]
    dsimp only
    rw [State.guardOver, State.reach_bay, if_neg (by simp [gone]), State.vacate, State.reach_bay]

/-! ## The start of a program (R7) -/

theorem handleBayRun_eq (q : RunRequest) (s : State) :
    handleBayRun q s =
      if (s.bay q.bay).state ≠ .engaged then (s, .plain .state)
      else if s.plans[q.plan] = none ∨ s.profiles[q.profile] = none then (s, .plain .absent)
      else (s.startProgram q, .plain .accepted) := by
  unfold handleBayRun refuse
  simp only [Option.isNone_iff_eq_none]
  split_ifs <;> simp_all

/-- Settles O27: the fields' status, R7's checks in order, and the program started. -/
theorem anEngagedBayRunsItsProgram : Obligations.AnEngagedBayRunsItsProgram := by
  intro s tag body attends
  cases fields : bayRunFields body with
  | error status => exact exec_frame_of_unchanged (c := .bayRun tag body) rfl attends (withFields_error fields _ _)
  | ok q =>
    have handled := (withFields_ok fields handleBayRun s.hunt).trans (handleBayRun_eq q s.hunt)
    dsimp only
    split_ifs with other missing
    · exact exec_frame_of_unchanged (c := .bayRun tag body) rfl attends (handled.trans (if_pos other))
    · exact exec_frame_of_unchanged (c := .bayRun tag body) rfl attends (handled.trans ((if_neg other).trans (if_pos missing)))
    · exact exec_frame_of_handled (c := .bayRun tag body) rfl attends (handled.trans ((if_neg other).trans (if_neg missing)))

/-! ## Giving up the load bus (R8, R14) -/

theorem State.leaveGrantQueue_of_no_entry (alone : ∀ e ∈ s.load.queue, e.bay ≠ b) : s.leaveGrantQueue b = s := by
  have same : s.load.queue.filter (·.bay != b) = s.load.queue := List.filter_eq_self.2 fun e he => by simpa using alone e he
  have behind : s.load.queue.head?.map (·.bay) ≠ some b := by
    intro h
    obtain ⟨e, head, own⟩ := Option.map_eq_some_iff.1 h
    exact alone e (List.mem_of_head? head) own
  rw [State.leaveGrantQueue_eq]
  dsimp only
  rw [same, if_neg behind]
  rfl

theorem State.returnGrant_of_none (none : s.load.granted[b] = 0) : s.returnGrant b = s := if_pos none

/-- R8, R43: a program ended after its bay has given up the load bus. -/
theorem State.endProgram_eq (p : Program) (o : TestOutcome)
    (held : s.load.granted[b] = 0 ∨ ∀ e ∈ s.load.queue, e.bay = b → e.isRestore = true) :
    s.endProgram b p o = (((s.returnGrant b).leaveGrantQueue b).setBay b
      { s.bay b with state := .engaged, lastResult := some (p.endedWith o s.clock.seconds) }).raise (.testDone b o none none none) := by
  obtain ⟨bay, -, -, frame⟩ := State.return_then_leave s b held
  have seconds := congrArg State.seconds frame
  rw [State.endProgram, bay]
  exact congrArg (fun t => State.raise _ (State.setBay b { s.bay b with state := .engaged, lastResult := some (p.endedWith o t) } _)) seconds

theorem exec_bayAbort (attends : s.attending) (tag : Byte) (b : BayNo) :
    exec (.bayAbort tag [byte b]) s =
      .next ((handleBayAbort b s.hunt).1.reply ⟨0xA2, tag, (handleBayAbort b s.hunt).2⟩) :=
  exec_frame_of_handled (c := .bayAbort tag [byte b]) rfl attends (withFields_ok (numberField_of_fin b (by decide)) _ _)

theorem handleBayAbort_of_none (idle : s.program b = none) : handleBayAbort b s = (s, .plain .state) := by
  rw [handleBayAbort, idle]
  rfl

theorem handleBayAbort_of_some {p : Program} (testing : s.program b = some p) :
    handleBayAbort b s = if p.phase.pulsing then (s.setProgram b { p with abortPending := true }, .plain .accepted)
      else (s.endProgram b p .aborted, .plain .ok) := by
  rw [handleBayAbort, testing]

/-- Settles O28: the handler by the program and its phase, and the end of a program that holds something on the load bus. -/
theorem anAbortEndsOrMarksTheProgram : Obligations.AnAbortEndsOrMarksTheProgram := by
  intro s tag b attends
  refine ⟨fun idle => ?idle, fun p testing => ⟨fun pulsing => ?marked, fun quiet none alone => ?free, fun quiet held => ?held⟩⟩
  case idle =>
    rw [exec_bayAbort attends, handleBayAbort_of_none (s := s.hunt) idle]
    rfl
  case marked =>
    rw [exec_bayAbort attends, handleBayAbort_of_some (s := s.hunt) testing, if_pos pulsing]
    rfl
  case free =>
    rw [exec_bayAbort attends, handleBayAbort_of_some (s := s.hunt) testing, if_neg (by simp [quiet]),
      State.endProgram_eq (s := s.hunt) p .aborted (Or.inl none), State.returnGrant_of_none (s := s.hunt) none,
      State.leaveGrantQueue_of_no_entry (s := s.hunt) alone, State.reply, ← State.raise_setLink, State.raise_link]
    rfl
  case held =>
    obtain ⟨bay, grant, entries, frame⟩ := State.return_then_leave s.hunt b held
    have ended := State.endProgram_eq (s := s.hunt) (b := b) p .aborted held
    refine ⟨_, by rw [exec_bayAbort attends, handleBayAbort_of_some (s := s.hunt) testing, if_neg (by simp [quiet])], ?_⟩
    dsimp only
    rw [ended]
    have written : ((State.reply ⟨0xA2, tag, .plain .ok⟩ ((((s.hunt.returnGrant b).leaveGrantQueue b).setBay b
        { s.hunt.bay b with state := .engaged, lastResult := some (p.endedWith .aborted s.hunt.clock.seconds) }).raise
        (.testDone b .aborted none none none))).bay b) =
        { s.hunt.bay b with state := .engaged, lastResult := some (p.endedWith .aborted s.hunt.clock.seconds) } := by
      simp [State.reply]
    refine ⟨?_, ?_, written, ?_⟩
    · simpa [State.reply, State.setBay] using grant
    · simpa [State.reply, State.setBay] using entries
    · rw [written]

/-! ## A fault (R14, R15) -/

/-- R14: the fault of a bay after it has given up the load bus. -/
theorem State.enterFault_eq (cause : FaultCause)
    (held : s.load.granted[b] = 0 ∨ ∀ e ∈ s.load.queue, e.bay = b → e.isRestore = true) :
    s.enterFault b cause = (((((s.returnGrant b).leaveGrantQueue b).setHoldQueue (s.holdQueue.filter (· != b))).setBay b
      ((s.bay b).stopped .faulted s.clock.seconds (.faulted cause))).raise (.bayFault b cause)).raiseAll
      ((s.bay b).state.endedBy b .faulted) := by
  obtain ⟨bay, -, -, frame⟩ := State.return_then_leave s b held
  have seconds : ((s.returnGrant b).leaveGrantQueue b).seconds = s.clock.seconds := by
    have same := congrArg State.seconds frame
    exact same
  have waiting : ((s.returnGrant b).leaveGrantQueue b).holdQueue = s.holdQueue := by
    have same := congrArg State.holdQueue frame
    exact same
  unfold State.enterFault
  dsimp only
  rw [waiting, State.setHoldQueue_bay, bay, State.setHoldQueue_seconds, seconds]

theorem State.faultBay_of_not_faulted {cause : FaultCause} (sound : ∀ first, (s.bay b).state ≠ .faulted first) :
    s.faultBay b cause = s.enterFault b cause := by
  unfold State.faultBay
  split
  · next first faulted => exact absurd faulted (sound first)
  · rfl

theorem Bay.stopped_state (y : Bay) (o : TestOutcome) (time : Seconds) (x : BayState) : (y.stopped o time x).state = x := by
  unfold Bay.stopped
  cases y.state <;> rfl

/-- Settles O30: the fault's equation, from which its parts are read off, with the events of the end by the bay's state. -/
theorem aFaultTakesTheBayOutOfEveryQueue : Obligations.AFaultTakesTheBayOutOfEveryQueue := by
  intro s b cause
  refine ⟨fun first faulted => by rw [State.faultBay, faulted], fun sound held => ?_⟩
  obtain ⟨-, grant, entries, frame⟩ := State.return_then_leave s b held
  have fault := (State.faultBay_of_not_faulted sound).trans (State.enterFault_eq cause held)
  generalize (s.returnGrant b).leaveGrantQueue b = left at grant entries frame fault ⊢
  obtain ⟨e, events⟩ := State.raiseAll_eq ((s.bay b).state.endedBy b .faulted)
    (((left.setHoldQueue (s.holdQueue.filter (· != b))).setBay b
      ((s.bay b).stopped .faulted s.clock.seconds (.faulted cause))).raise (.bayFault b cause))
  have whole := fault.trans events
  rw [State.raise_eq] at whole
  refine ⟨?state, ?grant, ?entries, ?holdQueue, fun p testing => ?result, fun q g hold => ?role, ?frame, ?full⟩
  case state => rw [whole, State.setEvents_bay, State.setEvents_bay, State.setBay_bay_self, Bay.stopped_state]
  case grant =>
    rw [whole]
    exact grant
  case entries =>
    rw [whole]
    exact entries
  case holdQueue =>
    rw [whole]
    show b ∉ s.holdQueue.filter (· != b)
    simp
  case result =>
    rw [whole, State.setEvents_bay, State.setEvents_bay, State.setBay_bay_self, Bay.stopped, testing]
    rfl
  case role =>
    rw [whole, State.setEvents_bay, State.setEvents_bay, State.setBay_bay_self, Bay.stopped, hold]
  case frame =>
    rw [whole]
    have same := congrArg (fun w : State => { w with holdQueue := s.holdQueue }) frame
    exact same
  case full =>
    dsimp only
    rw [fault]
    unfold Bay.stopped
    cases (s.bay b).state <;> rfl

end Sys2Proof.Machine
end

section
/-! Test programs (02_the_test_program.md; R25-R43, R85): the decision of IDENT, the timers that ask for conversions, the beginning and
the end of a drain, and the verdict; O31, O32 and O33. -/

namespace Sys2Proof.Machine

variable {s : State} {b : BayNo}

/-! ## Time leaves the tables as they are -/

@[simp] theorem State.reach_planOf (s : State) (m : Moment) (q : RunRequest) : (s.reach m).planOf q = s.planOf q := by
  rw [State.reach_eq_setClock]
  rfl

@[simp] theorem State.reach_profileOf (s : State) (m : Moment) (q : RunRequest) : (s.reach m).profileOf q = s.profileOf q := by
  rw [State.reach_eq_setClock]
  rfl

@[simp] theorem State.reach_bayPending (s : State) (m : Moment) (b : BayNo) : (s.reach m).bayPending b = s.arbiter.bayMarks[b] := by
  rw [State.bayPending, State.reach_arbiter]

/-! ## IDENT and the timers of the measuring phases (R25-R30, R39) -/

theorem State.askIfClear_eq (s : State) (b : BayNo) (p : Program) :
    s.askIfClear b p = if s.bayPending b = true then s.setBayState b (.testing p) else ConversionAsked b p s := rfl

theorem State.decideIdent_eq (s : State) (b : BayNo) (p : Program) :
    s.decideIdent b p =
      if p.request.expected = none ∨ p.identity = p.request.expected then s.beginRest b p
      else if p.identity = none then s.faultBay b .identUnread
      else s.faultBay b .identMismatch := by
  unfold State.decideIdent
  cases p.request.expected with
  | none => simp
  | some e => cases p.identity <;> simp

theorem State.tagRequest_iff : s.tagRequest b = true ↔ ∃ p m, (s.bay b).state = .testing p ∧ p.phase = .ident m false := by
  unfold State.tagRequest
  cases testing : s.program b with
  | none =>
    have outside : ∀ p, (s.bay b).state ≠ .testing p := fun p h => by simp [State.program_eq_some.2 h] at testing
    simp [outside]
  | some p =>
    simp only [State.program_eq_some.1 testing, BayState.testing.injEq]
    cases phase : p.phase
    case ident m answered => cases answered <;> simp [phase]
    all_goals simp [phase]

/-- Settles O31: each expiry by the phase that runs its timer. -/
theorem identIsDecidedAndPhaseTimersAskForConversions : Obligations.IdentIsDecidedAndPhaseTimersAskForConversions := by
  refine ⟨fun s b p m answered answer testing phase => ⟨?answer, ?read⟩, fun s b => State.tagRequest_iff,
    fun s b p m d tested testing => ⟨fun phase => ?rest, fun phase => ?settle, fun phase => ?cool, fun phase => ?monitor,
      fun phase => ?duration⟩⟩
  case answer =>
    show execTagReaderAnswer b answer s = _
    rw [execTagReaderAnswer, testing]
    dsimp only
    rw [phase]
    cases answered <;> rfl
  case read =>
    show execReadTimerExpiry b s = _
    rw [execReadTimerExpiry, testing]
    dsimp only
    rw [phase]
    dsimp only
    rw [State.decideIdent_eq, apply_ite Host.Outcome.next, apply_ite Host.Outcome.next, State.beginRest, State.reach_planOf]
    rfl
  case rest =>
    show execRestTimerExpiry b s = _
    rw [execRestTimerExpiry, testing]
    dsimp only
    rw [phase]
    rfl
  case settle =>
    show execSettleTimerExpiry b s = _
    rw [execSettleTimerExpiry, testing]
    dsimp only
    rw [phase]
    rfl
  case cool =>
    show execCoolWaitTimerExpiry b s = _
    rw [execCoolWaitTimerExpiry, testing]
    dsimp only
    rw [phase]
    dsimp only
    rw [State.askIfClear_eq, State.reach_bayPending, apply_ite Host.Outcome.next]
    rfl
  case monitor =>
    show execMonitorTimerExpiry b s = _
    rw [execMonitorTimerExpiry, testing]
    dsimp only
    rw [phase]
    dsimp only
    rw [State.askIfClear_eq, State.reach_bayPending, apply_ite Host.Outcome.next]
    rfl
  case duration =>
    show execDurationTimerExpiry b s = _
    rw [execDurationTimerExpiry, testing]
    dsimp only
    rw [phase]
    dsimp only
    rw [State.durationOver, State.reach_bayPending, apply_ite Host.Outcome.next]
    rfl

/-! ## The drain's beginning, samples and limit (R33-R37) -/

/-- Settles O32: each expiry by the phase that runs its timer. -/
theorem aDrainBeginsSamplesAndEndsInTime : Obligations.ADrainBeginsSamplesAndEndsInTime := by
  refine ⟨fun s b p m testing phase => ?recovery, fun s b p m d testing => ⟨fun phase => ?sample, fun phase => ?limit⟩⟩
  case recovery =>
    show execRecoveryTimerExpiry b s = _
    rw [execRecoveryTimerExpiry, testing]
    dsimp only
    rw [phase]
    dsimp only
    rw [State.recovered, State.beginDrain, State.reach_planOf, apply_ite Host.Outcome.next]
    rfl
  case sample =>
    show execSampleTimerExpiry b s = _
    rw [execSampleTimerExpiry, testing]
    dsimp only
    rw [phase]
    dsimp only
    rw [State.sampleDue, State.reach_bayPending, apply_ite Host.Outcome.next]
    rfl
  case limit =>
    show execTimeLimitExpiry b s = _
    rw [execTimeLimitExpiry, testing]
    dsimp only
    rw [phase]
    dsimp only
    rw [State.endDrain, State.reach_planOf]
    rfl

/-! ## The bay after a result (R42, R43) -/

/-- R42, R43: a bay written with its result and told of it takes the state of its auto-release choice. -/
theorem State.afterResult_raise_setBay (s : State) (b : BayNo) (y : Bay) (w : Happening) (auto : Bool) :
    ((s.setBay b y).raise w).afterResult b auto = (s.setBay b { y with state := AfterResult auto s }).raise w := by
  have written : ∀ x : BayState, ((s.setBay b y).raise w).setBayState b x = (s.setBay b { y with state := x }).raise w := by
    intro x
    rw [State.setBayState_eq, State.raise_bay, State.setBay_bay_self, ← State.raise_setBay, State.setBay_setBay]
  unfold State.afterResult AfterResult State.openClamp
  split_ifs
  · rw [written, State.raise_now, State.raise_settings]
    rfl
  · rw [written]

theorem State.rejectResult_eq (s : State) (b : BayNo) (p : Program) (o : TestOutcome) (f : Flags) :
    s.rejectResult b p o f = (s.setBay b { s.bay b with
      state := AfterResult p.request.autoRelease s
      lastResult := some ⟨o, some .r, f, p.identity, none, none, s.clock.seconds⟩
      resultRole := .bayReject }).raise (.testDone b o (some .r) none none) :=
  State.afterResult_raise_setBay ..

/-! ## The lowest free position and index (R81, R83) -/

/-- The first of a number of things with a property. -/
theorem find_finRange_eq_some {n : Nat} {p : Fin n → Bool} {i : Fin n} :
    (List.finRange n).find? p = some i ↔ p i = true ∧ ∀ j, j < i → p j = false := by
  rw [List.find?_eq_some_iff_getElem]
  constructor
  · rintro ⟨found, k, inside, same, before⟩
    rw [List.getElem_finRange] at same
    have place : k = i := by rw [← same]; rfl
    refine ⟨found, fun j lower => ?_⟩
    have unfit := before j.val (by rw [place]; exact lower)
    rw [List.getElem_finRange, Bool.not_eq_true'] at unfit
    exact unfit
  · rintro ⟨found, before⟩
    refine ⟨found, i, by simp, by rw [List.getElem_finRange]; rfl, fun j lower => ?_⟩
    rw [List.getElem_finRange, Bool.not_eq_true']
    exact before _ lower

theorem State.freePosition_eq_some {q : PositionNo} : s.freePosition = some q ↔ LowestFreePosition q s := by
  rw [State.freePosition, find_finRange_eq_some]
  simp [LowestFreePosition]

theorem State.freeRecord_eq_some {r : RecordNo} : s.freeRecord = some r ↔ LowestFreeRecord r s := by
  rw [State.freeRecord, find_finRange_eq_some]
  simp [LowestFreeRecord, Option.isSome_iff_ne_none]

theorem State.freePosition_eq_none : s.freePosition = none ↔ ∀ q, (s.position q).state ≠ .free := by
  simp [State.freePosition, List.find?_eq_none]

theorem State.placeFor_of_lowest {r : RecordNo} {q : PositionNo} (record : LowestFreeRecord r s) (position : LowestFreePosition q s) :
    s.placeFor = some (r, q) := by
  rw [State.placeFor, State.freePosition_eq_some.2 position, State.freeRecord_eq_some.2 record]

theorem State.placeFor_of_no_position (full : ∀ q, (s.position q).state ≠ .free) : s.placeFor = none := by
  rw [State.placeFor, State.freePosition_eq_none.2 full]

/-! ## The verdict (R41-R43) -/

theorem State.verdict_of_reject {p : Program} {drained : Option SettleReading}
    (reject : (p.grade b (s.profileOf p.request) s.limits drained s.clock.seconds).grade = .r) :
    s.verdict b p drained = s.rejectResult b p .graded (p.grade b (s.profileOf p.request) s.limits drained s.clock.seconds).flags := by
  unfold State.verdict
  show (match (p.grade b (s.profileOf p.request) s.limits drained s.clock.seconds).grade with | .r => _ | _ => _) = _
  rw [reject]
  rfl

theorem State.verdict_of_pass {p : Program} {drained : Option SettleReading}
    (pass : (p.grade b (s.profileOf p.request) s.limits drained s.clock.seconds).grade ≠ .r) :
    s.verdict b p drained = s.passResult b p (p.grade b (s.profileOf p.request) s.limits drained s.clock.seconds) := by
  unfold State.verdict
  dsimp only
  split
  · next reject => exact absurd reject pass
  · rfl

/-- Settles O33: the verdict by its grade, and a passing result by the free positions. -/
theorem aVerdictPlacesTheModuleOrHoldsIt : Obligations.AVerdictPlacesTheModuleOrHoldsIt := by
  intro s b p drained g graded
  subst graded
  refine ⟨fun reject => ?reject, fun pass full => ?hold, fun r q pass record position => ?place⟩
  case reject =>
    rw [State.verdict_of_reject reject, State.rejectResult_eq]
    rfl
  case hold =>
    rw [State.verdict_of_pass pass, State.passResult, State.placeFor_of_no_position full]
    rfl
  case place =>
    rw [State.verdict_of_pass pass, State.passResult, State.placeFor_of_lowest record position]
    dsimp only
    rw [State.afterResult_raise_setBay]
    rfl

end Sys2Proof.Machine
end

section
/-! The records of a running program (02_the_test_program.md, REST0, PULSE, DRAIN and SETTLE; R24, R27-R40, R47, R57): a record awaited,
and its use in each phase; O35, O36 and O37. -/

namespace Sys2Proof.Machine

variable {s : State} {b : BayNo} {p : Program} {m : Moment} {v c : Nat} {t h : Int}

/-! ## What a record leaves as it is until it is used -/

@[simp] theorem recordReaches_settings (b : BayNo) (m : Moment) (s : State) : (RecordReaches b m s).settings = s.settings := by
  rw [recordReaches_eq, State.setArbiter_settings, State.reach_settings]

@[simp] theorem State.reach_load (s : State) (m : Moment) : (s.reach m).load = s.load := by
  rw [State.reach_eq_setClock, State.setClock_load]

@[simp] theorem recordReaches_load (b : BayNo) (m : Moment) (s : State) : (RecordReaches b m s).load = s.load := by
  rw [recordReaches_eq, State.setArbiter_load, State.reach_load]

@[simp] theorem recordReaches_planOf (b : BayNo) (m : Moment) (s : State) (q : RunRequest) :
    (RecordReaches b m s).planOf q = s.planOf q := State.reach_planOf s m q

@[simp] theorem recordReaches_profileOf (b : BayNo) (m : Moment) (s : State) (q : RunRequest) :
    (RecordReaches b m s).profileOf q = s.profileOf q := State.reach_profileOf s m q

@[simp] theorem converterMovesOn_bay (r : Requester) (s : State) (b : BayNo) : (ConverterMovesOn r s).bay b = s.bay b := rfl

@[simp] theorem converterMovesOn_load (r : Requester) (s : State) : (ConverterMovesOn r s).load = s.load := rfl

@[simp] theorem State.setProgram_planOf (s : State) (b : BayNo) (p : Program) (q : RunRequest) :
    (s.setProgram b p).planOf q = s.planOf q := rfl

@[simp] theorem State.setProgram_profileOf (s : State) (b : BayNo) (p : Program) (q : RunRequest) :
    (s.setProgram b p).profileOf q = s.profileOf q := rfl

@[simp] theorem State.setProgram_settings (s : State) (b : BayNo) (p : Program) : (s.setProgram b p).settings = s.settings := rfl

@[simp] theorem State.setProgram_load (s : State) (b : BayNo) (p : Program) : (s.setProgram b p).load = s.load := rfl

theorem State.setProgram_bay_self (s : State) (b : BayNo) (p : Program) :
    (s.setProgram b p).bay b = { s.bay b with state := .testing p } := State.setBay_bay_self ..

/-! ## A record awaited (R24, R57) -/

theorem exec_record_of_awaiting (busy : s.arbiter.converter = .busy (.bay b) m) (testing : s.program b = some p)
    (awaits : p.awaiting = true) (v c : Nat) (t h : Int) :
    exec (.conversionComplete v c t h) s =
      .next (ConverterMovesOn (.bay b) ((RecordReaches b m s).currentReading b { p with awaiting := false } ⟨v, c, t, h⟩)) := by
  rw [exec_conversionComplete_of_bay busy, State.deliverBay, recordReaches_program, testing]
  dsimp only
  rw [if_pos awaits]

/-- R57: but at the end of a pulse, the thermal check comes before the phase's use of the record. -/
theorem State.currentReading_of_ongoing (ongoing : ∀ tested, p.phase ≠ .endWait tested true) (x : Reading) :
    s.currentReading b p x =
      if s.settings.shutdown ≤ x.heatsink then (s.setProgram b p).faultBay b .heat
      else ((s.setProgram b p).thermal b p x.heatsink).useReading b p x := by
  unfold State.currentReading
  dsimp only
  split
  · next tested ended => exact absurd ended (ongoing tested)
  · rfl

theorem State.currentReading_of_end {tested : Bool} (ended : p.phase = .endWait tested true) (x : Reading) :
    s.currentReading b p x = (s.setProgram b p).endReading b p x := by
  unfold State.currentReading
  rw [ended]

/-- R57: a heatsink at or above the shutdown threshold faults the bay, outside the end of a pulse. -/
theorem exec_record_of_heat (busy : s.arbiter.converter = .busy (.bay b) m) (testing : s.program b = some p)
    (awaits : p.awaiting = true) (ongoing : ∀ tested, p.phase ≠ .endWait tested true) (hot : s.settings.shutdown ≤ h) :
    exec (.conversionComplete v c t h) s = .next (ConverterMovesOn (.bay b)
      (((RecordReaches b m s).setProgram b { p with awaiting := false }).faultBay b .heat)) := by
  rw [exec_record_of_awaiting busy testing awaits, State.currentReading_of_ongoing (p := { p with awaiting := false }) ongoing,
    recordReaches_settings, if_pos hot]

/-- R57: below the shutdown threshold the record passes the thermal check, and its phase uses it. -/
theorem exec_record_of_cool (busy : s.arbiter.converter = .busy (.bay b) m) (testing : s.program b = some p)
    (awaits : p.awaiting = true) (ongoing : ∀ tested, p.phase ≠ .endWait tested true) (cool : h < s.settings.shutdown) :
    exec (.conversionComplete v c t h) s = .next (ConverterMovesOn (.bay b)
      ((((RecordReaches b m s).setProgram b { p with awaiting := false }).thermal b { p with awaiting := false } h).useReading b
        { p with awaiting := false } ⟨v, c, t, h⟩)) := by
  rw [exec_record_of_awaiting busy testing awaits, State.currentReading_of_ongoing (p := { p with awaiting := false }) ongoing,
    recordReaches_settings,
    if_neg (not_le.2 cool)]

/-! ## The ends of a program at its bay -/

theorem State.faultBay_leaves (testing : (s.bay b).state = .testing p)
    (held : s.load.granted[b] = 0 ∨ ∀ e ∈ s.load.queue, e.bay = b → e.isRestore = true) (cause : FaultCause) :
    ((s.faultBay b cause).bay b).state = .faulted cause ∧ (s.faultBay b cause).load.granted[b] = 0 := by
  obtain ⟨-, fault⟩ := aFaultTakesTheBayOutOfEveryQueue s b cause
  obtain ⟨state, grant, -⟩ := fault (fun first faulted => by simp [testing] at faulted) held
  exact ⟨state, grant⟩

theorem State.endProgram_leaves (held : s.load.granted[b] = 0 ∨ ∀ e ∈ s.load.queue, e.bay = b → e.isRestore = true)
    (p : Program) (o : TestOutcome) :
    (s.endProgram b p o).bay b = { s.bay b with state := .engaged, lastResult := some (p.endedWith o s.clock.seconds) } ∧
      (s.endProgram b p o).load.granted[b] = 0 := by
  obtain ⟨-, grant, -⟩ := State.return_then_leave s b held
  rw [State.endProgram_eq p o held, State.raise_bay, State.setBay_bay_self, State.raise_load]
  exact ⟨rfl, grant⟩

/-! ## The rest reading (R27, R28, R68) -/

theorem Plan.tempOutside_iff (pl : Plan) (t : Int) : pl.tempOutside t = true ↔ t < pl.windowLow ∨ pl.windowHigh < t := by
  simp [Plan.tempOutside]

/-- R68: the gate's tests in their order. -/
theorem restGate_eq (f : Profile) (plan : Plan) (cells v : Nat) (t : Int) :
    restGate f plan cells v t =
      if v / cells < f.breakpoints[0] then .rejectDeep
      else if f.breakpoints[20] + 50 < v / cells then .rejectOver
      else if t < plan.windowLow ∨ plan.windowHigh < t then .tempOut
      else .pass (stateOfCharge f v cells) := by
  unfold restGate perCell
  simp only [Plan.tempOutside_iff]

section
variable {e : GrantEntry}

theorem State.joinGrantQueue_of_empty (empty : s.load.queue = []) :
    s.joinGrantQueue e = if s.fits e then
      (State.grantEntry e (s.setLoad { s.load with queue := [] })).examine else s.setLoad { s.load with queue := [e] } := by
  rw [State.joinGrantQueue, if_pos empty, State.examine_cons (rest := []) rfl]
  rfl

/-- R28, R53: a start request that finds the grant queue empty is granted at once where it fits. -/
theorem State.joinGrantQueue_of_fits (empty : s.load.queue = []) (fit : HeadFits e s) : s.joinGrantQueue e = s.grantEntry e := by
  have same : { s.load with queue := [] } = s.load := by rw [← empty]
  rw [State.joinGrantQueue_of_empty empty, if_pos ((State.fits_iff_headFits _ e).2 fit), same]
  exact State.examine_nil ((State.grantEntry_frame s e).2.2.1.trans empty)

/-- R28, R53: a start request that does not fit waits at the head. -/
theorem State.joinGrantQueue_of_not_fits (empty : s.load.queue = []) (unfit : ¬ HeadFits e s) :
    s.joinGrantQueue e = s.setLoad { s.load with queue := [e] } := by
  rw [State.joinGrantQueue_of_empty empty, if_neg fun fits => unfit ((State.fits_iff_headFits _ e).1 fits)]

end

/-- R27: the program that keeps its rest reading, its state of charge still to come. -/
def Program.rested (p : Program) (x : Reading) (time : Seconds) : Program :=
  { p with rest := ⟨x.voltage, x.moduleTemp, x.heatsink, time, 0⟩ }

theorem State.restReading_eq (s : State) (b : BayNo) (p : Program) (x : Reading) :
    s.restReading b p x =
      if x.voltage / p.request.cells < (s.profileOf p.request).breakpoints[0] then
        s.rejectResult b (p.rested x s.clock.seconds) .rejectDeep p.flags
      else if (s.profileOf p.request).breakpoints[20] + 50 < x.voltage / p.request.cells then
        s.rejectResult b (p.rested x s.clock.seconds) .rejectOver p.flags
      else if x.moduleTemp < (s.planOf p.request).windowLow ∨ (s.planOf p.request).windowHigh < x.moduleTemp then
        s.endProgram b (p.rested x s.clock.seconds) .tempOut
      else s.beginPulse b { p with rest := ⟨x.voltage, x.moduleTemp, x.heatsink, s.clock.seconds,
        stateOfCharge (s.profileOf p.request) x.voltage p.request.cells⟩ } := by
  unfold State.restReading
  dsimp only
  rw [restGate_eq]
  split_ifs <;> rfl

/-- Settles O35: the record reaches the gate, and each answer of the gate is read off at the bay and the load bus. -/
theorem theRestReadingPassesTheGate : Obligations.TheRestReadingPassesTheGate := by
  intro s b p m v c t h busy testing awaits phase ungranted alone f plan ended reading start inPhase room
  have ongoing : ∀ tested, p.phase ≠ .endWait tested true := by simp [phase]
  generalize reached_eq : (RecordReaches b m s).setProgram b { p with awaiting := false } = reached
  have bay : reached.bay b = { s.bay b with state := .testing { p with awaiting := false } } := by
    rw [← reached_eq, State.setProgram_bay_self, recordReaches_bay]
  have load : reached.load = s.load := by rw [← reached_eq, State.setProgram_load, recordReaches_load]
  have settings : reached.settings = s.settings := by rw [← reached_eq, State.setProgram_settings, recordReaches_settings]
  have clock : reached.clock = (s.reach m).clock := by
    rw [← reached_eq]
    rfl
  have profile : reached.profileOf p.request = f := by rw [← reached_eq, State.setProgram_profileOf, recordReaches_profileOf]
  have plan_eq : reached.planOf p.request = plan := by rw [← reached_eq, State.setProgram_planOf, recordReaches_planOf]
  have held : reached.load.granted[b] = 0 ∨ ∀ e ∈ reached.load.queue, e.bay = b → e.isRestore = true := Or.inl (by rw [load]; exact ungranted)
  by_cases hot : s.settings.shutdown ≤ h
  · refine ⟨_, exec_record_of_heat busy testing awaits ongoing hot, fun _ => ?_, fun cool => absurd hot (not_le.2 cool)⟩
    rw [converterMovesOn_bay, reached_eq]
    exact (State.faultBay_leaves (p := { p with awaiting := false }) (by rw [bay]) held .heat).1
  have cool := not_le.1 hot
  have record := exec_record_of_cool (c := c) (t := t) (v := v) busy testing awaits ongoing cool
  have used : (((RecordReaches b m s).setProgram b { p with awaiting := false }).thermal b { p with awaiting := false } h).useReading b
      { p with awaiting := false } ⟨v, c, t, h⟩ = reached.restReading b { p with awaiting := false } ⟨v, c, t, h⟩ := by
    rw [reached_eq]
    unfold State.thermal State.useReading
    dsimp only
    rw [phase]
  rw [used, State.restReading_eq] at record
  dsimp only at record
  rw [profile, plan_eq, clock] at record
  refine ⟨_, record, fun hot => absurd hot (not_le.2 cool), fun _ => ⟨fun deep => ?deep, fun enough => ⟨fun above => ?above,
    fun within => ⟨fun outside => ?outside, fun low high => ⟨fun warm => ?warm, fun cold => ⟨fun occupied => ?queued,
      fun empty full => ?waiting, fun empty free => ?granted⟩⟩⟩⟩⟩⟩
  case deep =>
    rw [if_pos deep, converterMovesOn_bay, State.rejectResult_eq, State.raise_bay, State.setBay_bay_self, bay, clock]
    simp only [AfterResult, settings, clock, State.reach_settings]
    rfl
  case above =>
    rw [if_neg (not_lt.2 enough), if_pos above, converterMovesOn_bay, State.rejectResult_eq, State.raise_bay, State.setBay_bay_self, bay,
      clock]
    simp only [AfterResult, settings, clock, State.reach_settings]
    rfl
  case outside =>
    rw [if_neg (not_lt.2 enough), if_neg (not_lt.2 within), if_pos outside, converterMovesOn_bay, (State.endProgram_leaves held _ _).1,
      bay, clock]
    rfl
  all_goals
    have inside : ¬ (t < plan.windowLow ∨ plan.windowHigh < t) := not_or.2 ⟨not_lt.2 low, not_lt.2 high⟩
    rw [if_neg (not_lt.2 enough), if_neg (not_lt.2 within), if_neg inside, converterMovesOn_bay]
  case warm =>
    rw [State.beginPulse, settings, if_neg (not_lt.2 warm), State.setProgram_bay_self, bay, State.now, clock]
    rfl
  all_goals
    rw [converterMovesOn_load, State.beginPulse, settings, if_pos cold, State.askPulse]
    dsimp only
    rw [plan_eq]
  case queued =>
    rw [State.joinGrantQueue, State.setProgram_load, load, if_neg occupied]
    refine ⟨?_, rfl⟩
    rw [State.setLoad_bay, State.setProgram_bay_self, bay]
    rfl
  case waiting =>
    rw [State.joinGrantQueue_of_not_fits (by rw [State.setProgram_load, load, empty]) fun fit => full (by
      rw [HeadFits, State.setProgram_load, State.setProgram_settings, load, settings] at fit; exact fit)]
    rw [State.setLoad_bay, State.setProgram_bay_self, bay, State.setLoad_load, State.setProgram_load, load]
    exact ⟨rfl, rfl⟩
  case granted =>
    have now : reached.clock.ms = (s.reach m).clock.ms := by rw [clock]
    have fit : HeadFits start (reached.setProgram b (Program.enter .pulseWait { p with awaiting := false, rest := reading })) := by
      rw [HeadFits, State.setProgram_load, State.setProgram_settings, load, settings]
      exact free
    rw [State.joinGrantQueue_of_fits (by rw [State.setProgram_load, load, empty]) fit]
    have grant := (aGrantTurnsTheLoadOnAndAStartAges.2.1
      (reached.setProgram b (Program.enter .pulseWait { p with awaiting := false, rest := reading })) b _ plan.pulseCurrent 0
      (State.program_eq_some.2 (by rw [State.setProgram_bay_self]))).1 rfl
    rw [grant]
    refine ⟨?_, ?_⟩
    · show State.bay b (State.setBayState b _ _) = _
      rw [State.setBayState_eq, State.setBay_bay_self, State.setProgram_bay_self, bay]
      show Bay.mk (.testing { p with
        phase := .pulseOn (reached.clock.ms + (reached.planOf p.request).pulseDuration) (reached.clock.ms + 1000) false
        awaiting := false
        rest := reading }) _ _ _ _ = _
      rw [now, plan_eq]
    · show Load.mk (reached.load.granted.set b plan.pulseCurrent) reached.load.derated (reached.load.starts ++ [reached.clock.ms])
        reached.load.queue = _
      rw [load, now]

end Sys2Proof.Machine
end

section
/-! The readings of a pulse, of a drain and of settling (02_the_test_program.md, PULSE, DRAIN and SETTLE; R28-R31, R36-R40, R57): O36 and
O37. -/

namespace Sys2Proof.Machine

variable {s : State} {b : BayNo} {p : Program} {m : Moment} {v c : Nat} {t h : Int}

/-! ## The end of a pulse (R31) -/

theorem State.returnGrant_settings (alone : ∀ e ∈ s.load.queue, e.bay ≠ b) : (s.returnGrant b).settings = s.settings := by
  obtain ⟨-, -, frame⟩ := State.returnGrant_facts s b (Or.inr fun e member own => absurd own (alone e member))
  have same := congrArg State.settings frame
  exact same

theorem State.returnGrant_planOf (alone : ∀ e ∈ s.load.queue, e.bay ≠ b) (q : RunRequest) : (s.returnGrant b).planOf q = s.planOf q := by
  obtain ⟨-, -, frame⟩ := State.returnGrant_facts s b (Or.inr fun e member own => absurd own (alone e member))
  have same := congrArg (State.planOf q) frame
  exact same

theorem State.returnGrant_profileOf (alone : ∀ e ∈ s.load.queue, e.bay ≠ b) (q : RunRequest) :
    (s.returnGrant b).profileOf q = s.profileOf q := by
  obtain ⟨-, -, frame⟩ := State.returnGrant_facts s b (Or.inr fun e member own => absurd own (alone e member))
  have same := congrArg (State.profileOf q) frame
  exact same

theorem State.returnGrant_now (alone : ∀ e ∈ s.load.queue, e.bay ≠ b) : (s.returnGrant b).now = s.now := by
  obtain ⟨-, -, frame⟩ := State.returnGrant_facts s b (Or.inr fun e member own => absurd own (alone e member))
  have same := congrArg State.now frame
  exact same

theorem Plan.shortfall_iff (pl : Plan) (current : Nat) : pl.shortfall current = true ↔ current * 2 < pl.pulseCurrent := decide_eq_true_iff

/-- R31: after the grant has been returned, the first of the steps that holds decides the bay's state. -/
theorem State.endReading_leaves (testing : (s.bay b).state = .testing p) (alone : ∀ e ∈ s.load.queue, e.bay ≠ b) (q : Program)
    (x : Reading) :
    (s.endReading b q x).load.granted[b] = 0 ∧ ((s.endReading b q x).bay b).state =
      (if s.settings.shutdown ≤ x.heatsink then .faulted .heat
       else if q.abortPending = true then .engaged
       else if q.rest.voltage ≤ x.voltage then .faulted .pulseNoDrop
       else if x.current * 2 < (s.planOf q.request).pulseCurrent then .faulted .loadShortfall
       else if x.moduleTemp < (s.planOf q.request).windowLow ∨ (s.planOf q.request).windowHigh < x.moduleTemp then .engaged
       else .testing (({ q with pulse := pulseFigures (s.profileOf q.request) q.request q.rest.voltage x } : Program).enter
         (.recover (s.clock.ms + (s.planOf q.request).recoveryTime)))) := by
  obtain ⟨bay, grant, -⟩ := State.returnGrant_facts s b (Or.inr fun e member own => absurd own (alone e member))
  have still : ((s.returnGrant b).bay b).state = .testing p := by rw [bay, testing]
  have faults := State.faultBay_leaves still (Or.inl grant)
  have ends := State.endProgram_leaves (Or.inl grant) q
  unfold State.endReading
  dsimp only
  rw [State.returnGrant_settings alone, State.returnGrant_planOf alone, State.returnGrant_profileOf alone]
  simp only [Plan.shortfall_iff, Plan.tempOutside_iff]
  split_ifs with hot abort rises short outside
  · exact ⟨(faults _).2, (faults _).1⟩
  · exact ⟨(ends _).2, congrArg Bay.state (ends _).1⟩
  · exact ⟨(faults _).2, (faults _).1⟩
  · exact ⟨(faults _).2, (faults _).1⟩
  · exact ⟨(ends _).2, congrArg Bay.state (ends _).1⟩
  · refine ⟨grant, ?_⟩
    rw [State.beginRecover, State.setProgram_bay_self, State.returnGrant_planOf alone, State.returnGrant_now alone]
    rfl

/-! ## The uses of a record (R28-R30, R36-R40) -/

theorem State.monitorReading_short (short : (s.planOf p.request).shortfall c = true) (d n : Moment) :
    s.monitorReading b p d n false ⟨v, c, t, h⟩ = s.faultBay b .loadShortfall := if_pos short

theorem State.monitorReading_taken {tested : Bool} (fine : tested = true ∨ (s.planOf p.request).pulseCurrent ≤ c * 2) (d n : Moment) :
    s.monitorReading b p d n tested ⟨v, c, t, h⟩ = s.setProgram b { p with phase := .pulseOn d n true } :=
  if_neg (by rcases fine with rfl | enough <;> simp [Plan.shortfall, *])

theorem State.lastMonitorReading_short (short : (s.planOf p.request).shortfall c = true) :
    s.lastMonitorReading b p false ⟨v, c, t, h⟩ = s.faultBay b .loadShortfall := if_pos short

theorem State.lastMonitorReading_taken {tested : Bool} (fine : tested = true ∨ (s.planOf p.request).pulseCurrent ≤ c * 2) :
    s.lastMonitorReading b p tested ⟨v, c, t, h⟩ = s.askForProgram b { p with phase := .endWait true true } :=
  if_neg (by rcases fine with rfl | enough <;> simp [Plan.shortfall, *])

/-- The program that has its record. -/
abbrev Program.served (p : Program) : Program := { p with awaiting := false }

/-- Settles O36: the end conversion by its six steps, and every other record of a pulse by its phase. -/
theorem theReadingsOfAPulseAreJudged : Obligations.TheReadingsOfAPulseAreJudged := by
  refine ⟨fun s b p m tested v c t h busy testing awaits phase alone => ?ended, fun s b p m d n tested v c t h busy testing awaits =>
    ⟨fun phase => ?cool, fun phase => ?monitor, fun phase => ?last⟩⟩
  case ended =>
    have record := exec_record_of_awaiting busy testing awaits v c t h
    rw [State.currentReading_of_end (p := p.served) phase] at record
    have leaves := State.endReading_leaves (s := (RecordReaches b m s).setProgram b p.served) (b := b) (p := p.served)
      (by rw [State.setProgram_bay_self]) (by rw [State.setProgram_load, recordReaches_load]; exact alone) p.served ⟨v, c, t, h⟩
    refine ⟨_, record, leaves.1, leaves.2.trans ?_⟩
    rw [State.setProgram_settings, recordReaches_settings, State.setProgram_planOf, recordReaches_planOf, State.setProgram_profileOf,
      recordReaches_profileOf]
    rfl
  case cool =>
    have ongoing : ∀ tested, p.phase ≠ .endWait tested true := by simp [phase]
    refine ⟨fun hot => exec_record_of_heat busy testing awaits ongoing hot, fun cool warm => ?_, fun cool cold => ?_⟩
    all_goals
      rw [exec_record_of_cool busy testing awaits ongoing cool]
      unfold State.thermal State.useReading
      dsimp only
      rw [phase]
      dsimp only
      rw [State.coolReading]
    · rw [State.setProgram_settings, recordReaches_settings, if_neg (not_lt.2 warm)]
      rfl
    · rw [State.setProgram_settings, recordReaches_settings, if_pos cold, State.askPulse, State.setProgram_planOf, recordReaches_planOf]
      rfl
  case monitor =>
    have ongoing : ∀ tested, p.phase ≠ .endWait tested true := by simp [phase]
    refine ⟨fun hot => exec_record_of_heat busy testing awaits ongoing hot, fun cool untested short => ?_, fun cool fine => ?_⟩
    all_goals
      rw [exec_record_of_cool busy testing awaits ongoing cool]
      unfold State.thermal State.useReading
      dsimp only
      rw [phase]
      dsimp only
    · rw [untested, State.monitorReading_short]
      · rfl
      · rw [Plan.shortfall_iff, State.setProgram_planOf, recordReaches_planOf]
        exact short
    · rw [State.monitorReading_taken]
      · rfl
      · rw [State.setProgram_planOf, recordReaches_planOf]
        exact fine
  case last =>
    have ongoing : ∀ tested, p.phase ≠ .endWait tested true := by simp [phase]
    refine ⟨fun hot => exec_record_of_heat busy testing awaits ongoing hot, fun cool untested short => ?_, fun cool fine => ?_⟩
    all_goals
      rw [exec_record_of_cool busy testing awaits ongoing cool]
      unfold State.thermal State.useReading
      dsimp only
      rw [phase]
      dsimp only
    · rw [untested, State.lastMonitorReading_short]
      · rfl
      · rw [Plan.shortfall_iff, State.setProgram_planOf, recordReaches_planOf]
        exact short
    · rw [State.lastMonitorReading_taken]
      · rfl
      · rw [State.setProgram_planOf, recordReaches_planOf]
        exact fine

/-! ## The thermal check of a drain leaves all but the load bus, the bays and the events (R57) -/

/-- Whether two states differ in the load bus, the bays and the events at most. -/
abbrev State.sameBut (s t : State) : Prop := { t with load := s.load, bays := s.bays, events := s.events } = s

theorem State.sameBut.trans {t u : State} (first : s.sameBut t) (second : t.sameBut u) : s.sameBut u := by
  have frame := congrArg (fun w : State => { w with load := s.load, bays := s.bays, events := s.events }) second
  exact Eq.trans frame first

theorem State.setLoad_sameBut (s : State) (x : Load) : s.sameBut (s.setLoad x) := rfl

theorem State.raise_sameBut (s : State) (w : Happening) : s.sameBut (s.raise w) := by
  rw [State.raise_eq]
  rfl

theorem State.examine_sameBut (s : State) : s.sameBut s.examine := s.examine_frame

theorem State.joinGrantQueue_sameBut (s : State) (e : GrantEntry) : s.sameBut (s.joinGrantQueue e) := by
  unfold State.joinGrantQueue
  split
  · exact (s.setLoad_sameBut _).trans (State.examine_sameBut _)
  · exact s.setLoad_sameBut _

theorem State.derateBay_sameBut (s : State) (b : BayNo) (setpoint : Nat) (h : Int) : s.sameBut (s.derateBay b setpoint h) :=
  ((s.setLoad_sameBut _).trans (State.raise_sameBut _ _)).trans (State.examine_sameBut _)

theorem State.drainThermal_sameBut (s : State) (b : BayNo) (current : Nat) (h : Int) : s.sameBut (s.drainThermal b current h) := by
  cases derated : s.load.derated[b] with
  | none =>
    rw [State.drainThermal_of_full derated]
    split
    · exact s.derateBay_sameBut b current h
    · rfl
  | some setpoint =>
    rw [State.drainThermal_of_derated derated]
    split_ifs
    · exact (State.leaveGrantQueue_facts s b).2.2.2
    · rfl
    · exact s.joinGrantQueue_sameBut _
    · rfl

section
variable {u : State} (same : s.sameBut u)

include same

theorem State.sameBut.now : u.now = s.now := by
  have now := congrArg State.now same
  exact now

theorem State.sameBut.planOf (q : RunRequest) : u.planOf q = s.planOf q := by
  have plan := congrArg (State.planOf q) same
  exact plan

end

/-! ## A drain's record (R36, R38) -/

/-- R36: the program that has counted a record's current, for itself and for the overruns before it. -/
def Program.counted (p : Program) (current : Nat) : Program :=
  { p with charge := p.charge + current * (1 + p.overrunsSince), overrunsSince := 0 }

theorem State.drainReading_eq (s : State) (b : BayNo) (p : Program) (x : Reading) :
    s.drainReading b p x =
      if (s.planOf p.request).windowHigh + 10 < x.moduleTemp then (s.setProgram b (p.counted x.current)).faultBay b .moduleHot
      else if p.request.nameplate * (s.planOf p.request).drainDepth * 1440 ≤ (p.counted x.current).charge * 1000 ∨
          x.voltage / p.request.cells < (s.planOf p.request).floorVoltage then
        (s.setProgram b (p.counted x.current)).endDrain b (p.counted x.current)
      else s.setProgram b (p.counted x.current) := by
  rw [ite_or]
  rfl

/-! ## A settle record (R39, R40) -/

section
variable {x : Reading}

/-- R39: the program that has kept one more settle reading. -/
def Program.read (p : Program) (new : SettleReading) : Program :=
  { p with settleCount := p.settleCount + 1, settleBefore := p.settleLatest, settleLatest := some new }

/-- R39: a reading agrees with the one before it within the stability band, in either direction. -/
def Program.Settles (p : Program) (voltage band : Nat) : Prop :=
  ∃ x, p.settleLatest = some x ∧ x.voltage ≤ voltage + band ∧ voltage ≤ x.voltage + band

theorem Program.settles_iff (p : Program) (voltage band : Nat) :
    (match p.settleLatest with
     | some before => settled before.voltage voltage band
     | none => false) = true ↔ p.Settles voltage band := by
  unfold Program.Settles
  cases p.settleLatest with
  | none => simp
  | some before =>
    simp only [settled, Bool.and_eq_true, decide_eq_true_iff, Option.some.injEq, exists_eq_left']
    omega

theorem State.settleReading_of_stable
    (stable : p.Settles x.voltage ((s.planOf p.request).stabilityBand * p.request.cells)) :
    s.settleReading b p x = s.verdict b (p.read ⟨x.voltage, s.clock.seconds⟩) (some ⟨x.voltage, s.clock.seconds⟩) :=
  if_pos ((p.settles_iff _ _).2 stable)

theorem State.settleReading_of_unstable
    (unstable : ¬ p.Settles x.voltage ((s.planOf p.request).stabilityBand * p.request.cells)) (few : p.settleCount + 1 < 6) :
    s.settleReading b p x = s.setProgram b ((p.read ⟨x.voltage, s.clock.seconds⟩).enter
      (.settle (some (s.clock.ms + (s.planOf p.request).settleWindow * 1000)))) :=
  (if_neg fun stable => unstable ((p.settles_iff _ _).1 stable)).trans (if_pos few)

theorem State.settleReading_of_sixth
    (unstable : ¬ p.Settles x.voltage ((s.planOf p.request).stabilityBand * p.request.cells)) (sixth : 6 ≤ p.settleCount + 1) :
    s.settleReading b p x = s.verdict b { p.read ⟨x.voltage, s.clock.seconds⟩ with flags := { p.flags with unsettled := true } }
      (some ⟨x.voltage, s.clock.seconds⟩) :=
  (if_neg fun stable => unstable ((p.settles_iff _ _).1 stable)).trans (if_neg (Nat.not_lt.2 sixth))

end

/-- Settles O37: a drain's record after its thermal check, and a settle record by the one before it. -/
theorem aDrainIsCountedAndSettles : Obligations.ADrainIsCountedAndSettles := by
  intro s b p m v c t h busy testing awaits plan reached window used
  have plan_eq : reached.planOf p.request = plan := recordReaches_planOf b m s p.request
  have clock : reached.clock = (s.reach m).clock := rfl
  refine ⟨fun sample limit phase => ?drain, fun phase => ?settle⟩
  case drain =>
    have ongoing : ∀ tested, p.phase ≠ .endWait tested true := by simp [phase]
    intro q counted target floor
    have same := reached.drainThermal_sameBut b plan.drainCurrent h
    have after_plan : (reached.drainThermal b plan.drainCurrent h).planOf p.request = plan := (same.planOf _).trans plan_eq
    refine ⟨fun hot => exec_record_of_heat busy testing awaits ongoing hot, fun cool => ?_⟩
    have record := exec_record_of_cool (v := v) (c := c) (t := t) busy testing awaits ongoing cool
    have drains : (((RecordReaches b m s).setProgram b p.served).thermal b p.served h).useReading b p.served ⟨v, c, t, h⟩ =
        (reached.drainThermal b plan.drainCurrent h).drainReading b p.served ⟨v, c, t, h⟩ := by
      unfold State.thermal State.useReading
      dsimp only
      rw [phase]
      dsimp only
      rw [State.setProgram_planOf, recordReaches_planOf]
      rfl
    rw [drains, State.drainReading_eq] at record
    dsimp only at record
    rw [after_plan] at record
    have ended : (p.request.nameplate * plan.drainDepth * 1440 ≤ (p.served.counted c).charge * 1000 ∨
        v / p.request.cells < plan.floorVoltage) ↔ target ∨ floor := Iff.rfl
    have request : (reached.drainThermal b plan.drainCurrent h).planOf (p.served.counted c).request = plan := after_plan
    have now : ((reached.drainThermal b plan.drainCurrent h).setProgram b (p.served.counted c)).now = (s.reach m).clock.ms := same.now
    refine ⟨fun hot => record.trans (by rw [if_pos hot]; rfl), fun fine =>
      ⟨fun done => record.trans ?ends, fun short high => record.trans ?goes⟩⟩
    case ends =>
      rw [if_neg (not_lt.2 fine), if_pos (ended.2 done), State.endDrain, State.setProgram_planOf, request, now]
      rfl
    case goes =>
      rw [if_neg (not_lt.2 fine), if_neg fun done => (ended.1 done).elim short high]
      rfl
  case settle =>
    have ongoing : ∀ tested, p.phase ≠ .endWait tested true := by simp [phase]
    intro new q stable
    refine ⟨fun hot => exec_record_of_heat busy testing awaits ongoing hot, fun cool => ?_⟩
    have record := exec_record_of_cool (v := v) (c := c) (t := t) busy testing awaits ongoing cool
    have settles : (((RecordReaches b m s).setProgram b p.served).thermal b p.served h).useReading b p.served ⟨v, c, t, h⟩ =
        reached.settleReading b p.served ⟨v, c, t, h⟩ := by
      unfold State.thermal State.useReading
      dsimp only
      rw [phase]
      rfl
    rw [settles] at record
    have steady : p.served.Settles v ((reached.planOf p.served.request).stabilityBand * p.request.cells) ↔ stable := by
      rw [plan_eq]
      rfl
    refine ⟨fun settled => record.trans ?_, fun moved few => record.trans ?_, fun moved sixth => record.trans ?_⟩
    · rw [State.settleReading_of_stable (steady.2 settled)]
      rfl
    · rw [State.settleReading_of_unstable (p := p.served) (fun h => moved (steady.1 h)) few, plan_eq]
      rfl
    · rw [State.settleReading_of_sixth (p := p.served) (fun h => moved (steady.1 h)) sixth]
      rfl

end Sys2Proof.Machine
end

section
/-! The pool (05_the_module_pool_and_shelf_positions.md; R81-R93, R99-R102, R135, R136): the list of records, imports, deletions and
placings, the hold queue's positions, and presence changes on the rack; O43-O47. -/

namespace Sys2Proof.Machine

variable {s : State}

/-! ## The list (R99) -/

/-- The records in use among some indices, each with its index. -/
def State.indexed (s : State) (rs : List RecordNo) : List (RecordNo × Record) := rs.filterMap fun r => (s.record r).map fun x => (r, x)

theorem State.indexed_cons {r : RecordNo} {x : Record} (inUse : s.record r = some x) (rs : List RecordNo) :
    s.indexed (r :: rs) = (r, x) :: s.indexed rs := by
  rw [State.indexed, List.filterMap_cons, inUse]
  rfl

theorem State.indexed_map_fst {rs : List RecordNo} (inUse : ∀ r ∈ rs, (s.record r).isSome) : (s.indexed rs).map Prod.fst = rs := by
  induction rs with
  | nil => rfl
  | cons r rs ih =>
    obtain ⟨x, here⟩ := Option.isSome_iff_exists.1 (inUse r List.mem_cons_self)
    rw [State.indexed_cons here, List.map_cons, ih fun i member => inUse i (List.mem_cons_of_mem _ member)]

theorem State.indexed_take_map_snd {rs : List RecordNo} (inUse : ∀ r ∈ rs, (s.record r).isSome) (n : Nat) :
    ((s.indexed rs).take n).map Prod.snd = (rs.take n).filterMap s.record := by
  induction rs generalizing n with
  | nil => simp [State.indexed]
  | cons r rs ih =>
    obtain ⟨x, here⟩ := Option.isSome_iff_exists.1 (inUse r List.mem_cons_self)
    cases n with
    | zero => rfl
    | succ n =>
      rw [State.indexed_cons here, List.take_succ_cons, List.map_cons, ih fun i member => inUse i (List.mem_cons_of_mem _ member),
        List.take_succ_cons, List.filterMap_cons, here]

/-- R99: the indices a list's filter and start name. -/
def State.listed (s : State) (filter : Byte) (start : Nat) : List RecordNo :=
  (List.finRange 240).filter fun r => decide (start ≤ r.val) && (s.record r).any fun x => filter.getLsbD x.state.bit

theorem State.isSome_of_listed {filter : Byte} {start : Nat} : ∀ r ∈ s.listed filter start, (s.record r).isSome := by
  intro r member
  have named := (List.mem_filter.1 member).2
  cases inUse : s.record r with
  | none => simp [inUse] at named
  | some x => rfl

theorem State.matching_eq (s : State) (filter : Byte) (start : RecordNo) : s.matching filter start = s.indexed (s.listed filter start) := by
  unfold State.matching State.indexed State.listed
  rw [List.filterMap_filter]
  refine List.filterMap_congr fun r _ => ?_
  cases inUse : s.record r with
  | none => simp
  | some x =>
    by_cases below : r < start
    · simp [below, Nat.not_le.2 below]
    · simp [below, Nat.le_of_not_lt below]

theorem poolListFields_bytes (filter start : Byte) (inside : start.toNat < 240) :
    poolListFields [filter, start] =
      if filter.toNat ≠ 0 ∧ filter.toNat < 32 then .ok (filter, ⟨start.toNat, inside⟩) else .error .range := by
  have index : toFin 240 (u8 [filter, start] 1) = some ⟨start.toNat, inside⟩ := toFin_of_eq rfl
  unfold poolListFields checked
  simp only [index, List.getD_cons_zero, Option.bind_eq_bind, Option.bind_some]
  split_ifs <;> simp_all [sized]

theorem poolListFields_range (filter start : Byte) (outside : filter.toNat = 0 ∨ 32 ≤ filter.toNat ∨ 240 ≤ start.toNat) :
    poolListFields [filter, start] = .error .range := by
  by_cases inside : start.toNat < 240
  · rw [poolListFields_bytes filter start inside, if_neg (by omega)]
  · have index : toFin 240 (u8 [filter, start] 1) = none := dif_neg inside
    unfold poolListFields
    rw [index]
    rfl

/-- Settles O43: the records that match are those of the listed indices, in the same order. -/
theorem aListHoldsTheLowestTwelveMatches : Obligations.AListHoldsTheLowestTwelveMatches := by
  intro s tag filter start attends
  refine ⟨fun outside => ?range, fun some_state five inside => ?list⟩
  case range =>
    exact exec_frame_of_unchanged (c := .poolList tag [filter, start]) rfl attends
      (withFields_error (poolListFields_range filter start outside) _ _)
  case list =>
    have fields := poolListFields_bytes filter start inside
    rw [if_pos ⟨some_state, five⟩] at fields
    refine exec_frame_of_unchanged (c := .poolList tag [filter, start]) rfl attends ((withFields_ok fields handlePoolList _).trans ?_)
    have same : s.hunt.matching filter ⟨start.toNat, inside⟩ = s.indexed (s.listed filter start.toNat) :=
      State.matching_eq s filter ⟨start.toNat, inside⟩
    have length : (s.indexed (s.listed filter start.toNat)).length = (s.listed filter start.toNat).length := by
      rw [← List.length_map (f := Prod.fst), State.indexed_map_fst State.isSome_of_listed]
    have twelfth : (s.indexed (s.listed filter start.toNat))[11]?.map (fun y => y.1.val + 1) =
        (s.listed filter start.toNat)[11]?.map fun r => r.val + 1 := by
      conv_rhs => rw [← State.indexed_map_fst (s := s) (rs := s.listed filter start.toNat) State.isSome_of_listed]
      rw [List.getElem?_map, Option.map_map]
      rfl
    unfold handlePoolList
    dsimp only
    rw [same, length]
    show (s.hunt, ReplyBody.recordList (((s.indexed (s.listed filter start.toNat)).take 12).map Prod.snd)
      (if 12 < (s.listed filter start.toNat).length then
        (s.indexed (s.listed filter start.toNat))[11]?.map fun y => y.1.val + 1 else none)) = _
    rw [State.indexed_take_map_snd State.isSome_of_listed, twelfth]
    rfl

/-! ## Imports (R102) -/

theorem State.freeRecord_eq_none : s.freeRecord = none ↔ ∀ r, s.record r ≠ none := by
  simp [State.freeRecord, List.find?_eq_none]

section
variable {f : ImportFacts} {r : RecordNo}

theorem handlePoolImport_of_free (index : s.freeRecord = some r) (empty : (s.position f.position).state = .free) :
    handlePoolImport f s = (s.bindRecord r f.position (f.record .unshelved s.seconds), .imported r .assigned) := by
  rw [handlePoolImport, index]
  dsimp only
  rw [empty]

theorem handlePoolImport_of_unknown (index : s.freeRecord = some r) (unknown : (s.position f.position).state = .unknown) :
    handlePoolImport f s =
      (((s.setRecord r (some (f.record .available s.seconds))).setPositionState f.position (.held r)).retryRound, .imported r .held) := by
  rw [handlePoolImport, index]
  dsimp only
  rw [unknown]
  rfl

end

/-- Settles O44: the fields' status, the table's room, and the position's state. -/
theorem anImportMakesARecord : Obligations.AnImportMakesARecord := by
  intro s tag body attends
  refine ⟨fun status fails => ?_, fun f fields => ⟨fun full => ?full, fun r free lowest =>
    ⟨fun empty => ?empty, fun unknown => ?unknown, fun not_free not_unknown => ?inUse⟩⟩⟩
  · exact exec_frame_of_unchanged (c := .poolImport tag body) rfl attends (withFields_error fails _ _)
  case full =>
    refine exec_frame_of_unchanged (c := .poolImport tag body) rfl attends ((withFields_ok fields handlePoolImport _).trans ?_)
    have none_free : s.hunt.freeRecord = none := State.freeRecord_eq_none.2 full
    rw [handlePoolImport, none_free]
    rfl
  all_goals
    have index : s.hunt.freeRecord = some r := State.freeRecord_eq_some.2 ⟨free, lowest⟩
  case empty =>
    have handled := handlePoolImport_of_free (s := s.hunt) index empty
    have answered := exec_frame_of_handled (c := .poolImport tag body) rfl attends
      ((withFields_ok fields handlePoolImport _).trans handled)
    exact answered
  case unknown =>
    have handled := handlePoolImport_of_unknown (s := s.hunt) index unknown
    have answered := exec_frame_of_handled (c := .poolImport tag body) rfl attends
      ((withFields_ok fields handlePoolImport _).trans handled)
    exact answered
  case inUse =>
    refine exec_frame_of_unchanged (c := .poolImport tag body) rfl attends ((withFields_ok fields handlePoolImport _).trans ?_)
    rw [handlePoolImport, index]
    dsimp only
    rw [State.hunt_position]
    split
    · next empty => exact absurd empty not_free
    · next unknown => exact absurd unknown not_unknown
    · rfl

/-! ## Deletions and placings (R100, R101) -/

section
variable {r : RecordNo} {x : Record} {p : PositionNo}

theorem handlePoolDelete_of_none (free : s.record r = none) : handlePoolDelete r s = (s, .plain .absent) := by
  rw [handlePoolDelete, free]
  rfl

theorem handlePoolDelete_of_reserved (inUse : s.record r = some x) {k : StringNo} {slot : Nat} (reserved : x.state = .reserved k slot) :
    handlePoolDelete r s = (s, .plain .inUse) := by
  rw [handlePoolDelete, inUse]
  dsimp only
  rw [reserved]
  rfl

theorem handlePoolDelete_of_not_reserved (inUse : s.record r = some x) (other : ∀ k slot, x.state ≠ .reserved k slot) :
    handlePoolDelete r s = (s.deleteFrom r x, .deleted x.position ((s.deleteFrom r x).position x.position).state.name) := by
  rw [handlePoolDelete, inUse]
  dsimp only
  split
  · next k slot reserved => exact absurd reserved (other k slot)
  · rfl

theorem State.deleteFrom_of_on_rack (onRack : x.state = .available ∨ x.state = .rejected) :
    s.deleteFrom r x = (s.setRecord r none).setPositionState x.position .unknown := by
  unfold State.deleteFrom
  rcases onRack with h | h <;> rw [h] <;> rfl

theorem State.deleteFrom_of_off_rack (offRack : x.state = .unshelved ∨ x.state = .absent) :
    s.deleteFrom r x = ((s.setRecord r none).setPositionState x.position .free).assignHeld := by
  unfold State.deleteFrom
  rcases offRack with h | h <;> rw [h] <;> rfl

@[simp] theorem State.updateRecord_of_some (inUse : s.record r = some x) (f : Record → Record) :
    s.updateRecord r f = s.setRecord r (some (f x)) := by
  rw [State.updateRecord, inUse]

theorem State.shelve_eq (inUse : s.record r = some x) (p : PositionNo) :
    s.shelve r p = ((s.setRecord r (some { x with
      state := .available, position := p, stale := false, baseline := none, drift := none })).setPositionState p (.held r)).raise
      (.recordShelved r p) := by
  rw [State.shelve, State.updateRecord_of_some inUse]

end

theorem poolPlaceFields_bytes (r : RecordNo) (p : PositionNo) : poolPlaceFields [byte r, byte p] = .ok (r, p) := by
  have record : toFin 240 (u8 [byte r, byte p] 0) = some r := toFin_of_eq (u8_of_drop (rest := [byte p]) rfl (by omega))
  have position : toFin 240 (u8 [byte r, byte p] 1) = some p := toFin_of_eq (u8_of_drop (rest := []) rfl (by omega))
  unfold poolPlaceFields
  rw [record, position]
  rfl

/-- Settles O45: each request by the record's state and the position's. -/
theorem aRecordIsDeletedOrPlaced : Obligations.ARecordIsDeletedOrPlaced := by
  intro s tag r p attends
  have number := numberField_of_fin r (by decide)
  have places := poolPlaceFields_bytes r p
  refine ⟨fun free => ⟨?deleteFree, ?placeFree⟩, fun x inUse => ⟨fun k slot reserved => ?deleteReserved, fun onRack => ?deleteOnRack,
    fun offRack => ?deleteOffRack, fun unfit => ?placeUnfit, fun unshelved unknown => ?place⟩⟩
  case deleteFree =>
    exact exec_frame_of_unchanged (c := .poolDelete tag [byte r]) rfl attends ((withFields_ok number handlePoolDelete _).trans
      (handlePoolDelete_of_none (s := s.hunt) free))
  case placeFree =>
    refine exec_frame_of_unchanged (c := .poolPlace tag [byte r, byte p]) rfl attends ((withFields_ok places handlePoolPlace _).trans ?_)
    rw [handlePoolPlace, State.hunt_record, free]
    rfl
  case deleteReserved =>
    exact exec_frame_of_unchanged (c := .poolDelete tag [byte r]) rfl attends ((withFields_ok number handlePoolDelete _).trans
      (handlePoolDelete_of_reserved (s := s.hunt) inUse reserved))
  case deleteOnRack =>
    have deleted := exec_frame_of_handled (c := .poolDelete tag [byte r]) rfl attends ((withFields_ok number handlePoolDelete _).trans
      (handlePoolDelete_of_not_reserved (s := s.hunt) inUse fun k slot reserved => by simp [reserved] at onRack))
    rw [deleted, State.deleteFrom_of_on_rack onRack, State.setPositionState_state]
    rfl
  case deleteOffRack =>
    have deleted := exec_frame_of_handled (c := .poolDelete tag [byte r]) rfl attends ((withFields_ok number handlePoolDelete _).trans
      (handlePoolDelete_of_not_reserved (s := s.hunt) inUse fun k slot reserved => by simp [reserved] at offRack))
    rw [deleted, State.deleteFrom_of_off_rack offRack]
    rfl
  case placeUnfit =>
    refine exec_frame_of_unchanged (c := .poolPlace tag [byte r, byte p]) rfl attends ((withFields_ok places handlePoolPlace _).trans ?_)
    rw [handlePoolPlace, State.hunt_record, inUse]
    exact if_neg fun fit => unfit.elim (fun h => h fit.1) fun h => h fit.2
  case place =>
    refine exec_frame_of_handled (c := .poolPlace tag [byte r, byte p]) rfl attends ((withFields_ok places handlePoolPlace _).trans ?_)
    rw [handlePoolPlace, State.hunt_record, inUse]
    dsimp only
    rw [if_pos ⟨unshelved, unknown⟩, State.place, State.shelve_eq (s := s.hunt) inUse]
    rfl

/-! ## The hold queue's positions (R87) -/

theorem State.assignHeld_of_empty (empty : s.holdQueue = []) : s.assignHeld = s := by
  rw [State.assignHeld, empty, List.length_nil, State.assignHeldUpTo]

theorem State.assignHeld_of_no_place (full : s.placeFor = none) : s.assignHeld = s := by
  unfold State.assignHeld
  cases s.holdQueue.length with
  | zero => rw [State.assignHeldUpTo]
  | succ n =>
    rw [State.assignHeldUpTo]
    cases s.holdQueue with
    | nil => rfl
    | cons b rest =>
      dsimp only
      rw [full]
      cases (s.bay b).state <;> rfl

@[simp] theorem State.leaveHold_holdQueue (s : State) (b : BayNo) (q : RunRequest) (g : GradedResult) (r : RecordNo) (p : PositionNo) :
    (s.leaveHold b q g r p).holdQueue = s.holdQueue := by
  rw [State.leaveHold, State.afterResult_raise_setBay, State.raise_holdQueue]
  rfl

/-- R87: the head's result takes its place, and the service goes on with what is left of the queue. -/
theorem State.assignHeld_cons {b : BayNo} {rest : List BayNo} {q : RunRequest} {g : GradedResult} {r : RecordNo} {p : PositionNo}
    (queue : s.holdQueue = b :: rest) (hold : (s.bay b).state = .hold q g) (place : s.placeFor = some (r, p)) :
    s.assignHeld = State.assignHeld (((s.setHoldQueue rest).bindRecord r p (g.record p)).leaveHold b q g r p) := by
  have left : (((s.setHoldQueue rest).bindRecord r p (g.record p)).leaveHold b q g r p).holdQueue = rest := State.leaveHold_holdQueue ..
  conv_lhs => rw [State.assignHeld, queue, List.length_cons, State.assignHeldUpTo, queue]
  dsimp only
  rw [hold, place]
  dsimp only
  rw [State.assignHeld, left]

/-- Settles O46: the service's equation at the head of the hold queue. -/
theorem aFreedPositionGoesToTheHoldQueue : Obligations.AFreedPositionGoesToTheHoldQueue := by
  refine fun s => ⟨State.assignHeld_of_empty, fun full => State.assignHeld_of_no_place (State.placeFor_of_no_position full),
    fun b rest q g r p queue hold record position => ?_⟩
  rw [State.assignHeld_cons queue hold (State.placeFor_of_lowest record position), State.leaveHold, State.afterResult_raise_setBay]
  rfl

/-! ## Presence changes on the rack (R87-R93) -/

/-- The pick of a slot (R135). -/
def Slot.isPicked : Slot → Bool
  | .picked .. => true
  | _ => false

theorem Slot.isPicked_iff (y : Slot) : y.isPicked = true ↔ ∃ v n t, y = .picked v n t := by
  cases y <;> simp [Slot.isPicked]

theorem pickedCount_eq (slots : List Slot) : pickedCount slots = slots.countP Slot.isPicked := by
  unfold pickedCount
  refine congrArg (List.countP · slots) (funext fun y => ?_)
  cases y <;> rfl

theorem pickedCount_eq_filter (slots : List Slot) : pickedCount slots = (slots.filter fun y => y matches .picked ..).length := by
  rw [pickedCount_eq, List.countP_eq_length_filter]
  refine congrArg List.length (congrArg (List.filter · slots) (funext fun y => ?_))
  cases y <;> rfl

theorem pickedCount_eq_length (slots : List Slot) : pickedCount slots = slots.length ↔ ∀ y ∈ slots, ∃ v n t, y = .picked v n t := by
  simp only [pickedCount_eq, List.countP_eq_length, Slot.isPicked_iff]

section
variable {k : StringNo} {slot : Nat} {x : StringEntry} {r : RecordNo} {v : SlotValues} {order : Nat}

/-- R135: a pick that leaves a slot to pick. -/
theorem State.pickSlot_of_left (string : s.string k = some x) (reserved : x.slots[slot]? = some (.reserved r v))
    (next : pickedCount x.slots + 1 = order) (p : PositionNo)
    (left : ∃ y ∈ x.slots.set slot (.picked v order s.clock.seconds), ¬ ∃ v n t, y = Slot.picked v n t) :
    s.pickSlot k slot p = (s.setString k (some { x with slots := x.slots.set slot (.picked v order s.clock.seconds) })).raise
      (.slotPicked k slot order p) := by
  subst next
  have more : ¬ pickedCount (x.slots.set slot (.picked v (pickedCount x.slots + 1) s.seconds)) =
      (x.slots.set slot (.picked v (pickedCount x.slots + 1) s.seconds)).length := by
    rw [pickedCount_eq_length]
    exact fun done => left.elim fun y h => h.2 (done y h.1)
  rw [State.pickSlot, string]
  dsimp only
  rw [reserved]
  simp only [more]
  rfl

/-- R135: the pick of the last slot. -/
theorem State.pickSlot_of_all (string : s.string k = some x) (reserved : x.slots[slot]? = some (.reserved r v))
    (next : pickedCount x.slots + 1 = order) (p : PositionNo)
    (all : ∀ y ∈ x.slots.set slot (.picked v order s.clock.seconds), ∃ v n t, y = Slot.picked v n t) :
    s.pickSlot k slot p = ((s.setString k (some { x with
      slots := x.slots.set slot (.picked v order s.clock.seconds), state := .complete })).raise
        (.slotPicked k slot order p)).raise (.stringComplete k x.request.length) := by
  subst next
  have done : pickedCount (x.slots.set slot (.picked v (pickedCount x.slots + 1) s.seconds)) =
      (x.slots.set slot (.picked v (pickedCount x.slots + 1) s.seconds)).length := (pickedCount_eq_length _).2 all
  rw [State.pickSlot, string]
  dsimp only
  rw [reserved]
  simp only [done]
  rfl

end

/-- Settles O47: each change by the position's state and its record's, and the pick by what is left to pick. -/
theorem aPresenceChangeActsByThePosition : Obligations.APresenceChangeActsByThePosition := by
  refine ⟨fun s p => ⟨fun free => ?free, fun unknown => ?unknown, fun r x inUse => ⟨fun assigned => ?assigned, fun vacated => ?vacated,
    fun held available => ?stray, fun held rejected => ?rejected, fun k slot held reserved => ?pick⟩⟩,
    fun s k slot p x r v string reserved => ?slots⟩
  case free => rw [State.arrival, free]
  case unknown => rw [State.removal, unknown]
  case assigned =>
    rw [State.arrival, assigned]
    dsimp only
    rw [State.shelve_eq inUse]
    rfl
  case vacated =>
    rw [State.arrival, vacated]
    dsimp only
    rw [State.updateRecord_of_some inUse]
    rfl
  case stray =>
    rw [State.removal, held]
    dsimp only
    rw [inUse]
    dsimp only
    rw [State.removeHeld, available]
  case rejected =>
    rw [State.removal, held]
    dsimp only
    rw [inUse]
    dsimp only
    rw [State.removeHeld, rejected]
    rfl
  case pick =>
    rw [State.removal, held]
    dsimp only
    rw [inUse]
    dsimp only
    rw [State.removeHeld, reserved]
    rfl
  case slots =>
    have next := congrArg (· + 1) (pickedCount_eq_filter x.slots)
    exact ⟨State.pickSlot_of_left string reserved next p, State.pickSlot_of_all string reserved next p⟩

end Sys2Proof.Machine
end

section
/-! The rack (05_the_module_pool_and_shelf_positions.md, 06_rack_scanning_and_shelf_watch.md; R94-R97, R106-R115, R119): what the
operations on records and strings leave as it is, the visits of the scanner, and shelf samples with their drift; O49-O51. -/

namespace Sys2Proof.Machine

variable {s : State}

/-! ## What the operations on records and strings leave as it is -/

/-- Whether two states differ in the records, the strings and the events at most. -/
abbrev State.samePart (s t : State) : Prop := { t with records := s.records, strings := s.strings, events := s.events } = s

section
variable {t u : State}

theorem State.samePart.trans (first : s.samePart t) (second : t.samePart u) : s.samePart u := by
  have frame := congrArg (fun w : State => { w with records := s.records, strings := s.strings, events := s.events }) second
  exact Eq.trans frame first

theorem State.samePart.scanner (same : s.samePart t) : t.scanner = s.scanner := by
  have scanner := congrArg State.scanner same
  exact scanner

theorem State.samePart.now (same : s.samePart t) : t.now = s.now := by
  have now := congrArg State.now same
  exact now

theorem State.samePart_foldl {α : Type} (f : State → α → State) (keeps : ∀ (s : State) x, s.samePart (f s x)) (xs : List α) (s : State) :
    s.samePart (xs.foldl f s) :=
  List.foldlRecOn (motive := s.samePart) xs f rfl fun t same x _ => same.trans (keeps t x)

end

theorem State.raise_samePart (s : State) (w : Happening) : s.samePart (s.raise w) := by
  rw [State.raise_eq]
  rfl

theorem State.raiseAll_samePart (ws : List Happening) (s : State) : s.samePart (s.raiseAll ws) := by
  induction ws generalizing s with
  | nil => rfl
  | cons w ws ih => exact (s.raise_samePart w).trans (ih _)

theorem State.setRecord_samePart (s : State) (r : RecordNo) (x : Option Record) : s.samePart (s.setRecord r x) := rfl

theorem State.setString_samePart (s : State) (k : StringNo) (x : Option StringEntry) : s.samePart (s.setString k x) := rfl

theorem State.updateRecord_samePart (s : State) (r : RecordNo) (f : Record → Record) : s.samePart (s.updateRecord r f) := by
  unfold State.updateRecord
  split <;> rfl

theorem State.vacateSlot_samePart (s : State) (k : StringNo) (slot : Nat) : s.samePart (s.vacateSlot k slot) := by
  unfold State.vacateSlot
  split <;> rfl

theorem State.reserveAll_samePart (k : StringNo) (w : List Candidate) (slot : Nat) (s : State) : s.samePart (s.reserveAll k slot w) := by
  induction w generalizing slot s with
  | nil => rfl
  | cons c w ih => exact (s.updateRecord_samePart _ _).trans (ih _ _)

theorem State.reserveWindow_samePart (s : State) (k : StringNo) (x : StringEntry) (w : List Candidate) :
    s.samePart (s.reserveWindow k x w) :=
  ((s.setString_samePart k _).trans (State.reserveAll_samePart k w 0 _)).trans (State.raise_samePart _ _)

theorem State.searchString_samePart (s : State) (k : StringNo) (x : StringEntry) : s.samePart (s.searchString k x) := by
  unfold State.searchString
  split
  · exact s.reserveWindow_samePart k x _
  · rfl

theorem State.commitSubstitutes_samePart (k : StringNo) (fills : List (Nat × Candidate)) (s : State) :
    s.samePart (s.commitSubstitutes k fills) := by
  induction fills generalizing s with
  | nil => rfl
  | cons fill fills ih =>
    unfold State.commitSubstitutes
    dsimp only
    split
    · exact ((s.setString_samePart k _).trans (State.updateRecord_samePart _ _ _)).trans (ih _)
    · exact (s.updateRecord_samePart _ _).trans (ih _)

theorem State.fillSlots_samePart (s : State) (k : StringNo) (x : StringEntry) (fills : List (Nat × Candidate)) :
    s.samePart (s.fillSlots k x fills) :=
  ((s.setString_samePart k _).trans (State.commitSubstitutes_samePart k fills _)).trans (State.raiseAll_samePart _ _)

theorem State.repairString_samePart (s : State) (k : StringNo) : s.samePart (s.repairString k) := by
  unfold State.repairString
  split
  · split
    · exact s.fillSlots_samePart k _ _
    · exact (s.setString_samePart k _).trans (State.raise_samePart _ _)
  · rfl

theorem State.retryString_samePart (s : State) (k : StringNo) : s.samePart (s.retryString k) := by
  unfold State.retryString
  split
  · split
    · exact s.searchString_samePart k _
    · split
      · exact s.fillSlots_samePart k _ _
      · rfl
    all_goals rfl
  · rfl

theorem State.retryRound_samePart (s : State) : s.samePart s.retryRound :=
  State.samePart_foldl _ (fun s k => s.retryString_samePart k) _ s

theorem State.shelfReject_samePart (s : State) (r : RecordNo) (x : Record) (d : Nat) : s.samePart (s.shelfReject r x d) := by
  unfold State.shelfReject
  dsimp only
  split
  · exact (((s.vacateSlot_samePart _ _).trans (State.setRecord_samePart _ r _)).trans (State.raise_samePart _ _)).trans
      (State.repairString_samePart _ _)
  · exact (s.setRecord_samePart r _).trans (State.raise_samePart _ _)

theorem State.recheckReservation_samePart (s : State) (r : RecordNo) (y : Record) : s.samePart (s.recheckReservation r y) := by
  unfold State.recheckReservation
  split
  · split
    · split
      · rfl
      · exact (((s.setRecord_samePart r _).trans (State.vacateSlot_samePart _ _ _)).trans (State.repairString_samePart _ _)).trans
          (State.retryRound_samePart _)
    · rfl
  · rfl

theorem State.downgradeRecord_samePart (s : State) (r : RecordNo) (x : Record) (d : Nat) : s.samePart (s.downgradeRecord r x d) :=
  ((s.setRecord_samePart r _).trans (State.raise_samePart _ _)).trans (State.recheckReservation_samePart _ r _)

theorem State.gradeAction_samePart (s : State) (r : RecordNo) (x : Record) (d : Nat) : s.samePart (s.gradeAction r x d) := by
  unfold State.gradeAction
  split_ifs
  · rfl
  · exact s.shelfReject_samePart r x d
  · split
    · exact s.downgradeRecord_samePart r x d
    · exact s.downgradeRecord_samePart r x d
    · exact (s.setRecord_samePart r _).trans (State.shelfReject_samePart _ r _ d)
    · rfl
  · rfl

theorem State.updateDrift_samePart (s : State) (r : RecordNo) (x : Record) : s.samePart (s.updateDrift r x) := by
  unfold State.updateDrift
  split
  · rfl
  · split
    · rfl
    · exact (s.setRecord_samePart r _).trans (State.gradeAction_samePart _ r _ _)

theorem State.freshen_samePart (s : State) (r : RecordNo) : s.samePart (s.freshen r) := by
  have cleared := (s.updateRecord_samePart r fun x => { x with stale := false }).trans (State.raise_samePart _ (.recordFresh r))
  unfold State.freshen
  dsimp only
  split
  · split
    · exact cleared.trans (State.retryRound_samePart _)
    · exact cleared
  · exact cleared

theorem State.shelfSample_samePart (s : State) (p : PositionNo) (v : Nat) : s.samePart (s.shelfSample p v) := by
  unfold State.shelfSample
  split
  · split
    · next r _ _ x _ =>
      have drifted := (s.setRecord_samePart r (some { x with restVoltage := v, restTime := s.seconds, sampled := true })).trans
        (State.updateDrift_samePart _ r { x with restVoltage := v, restTime := s.seconds, sampled := true })
      dsimp only
      split
      · exact drifted.trans (State.freshen_samePart _ _)
      · exact drifted
    · rfl
  · rfl

theorem State.markStaleAt_samePart (s : State) (p : PositionNo) : s.samePart (s.markStaleAt p) := by
  unfold State.markStaleAt
  split
  · split
    · split
      · exact (s.setRecord_samePart _ _).trans (State.raise_samePart _ _)
      · rfl
    · rfl
  · rfl

theorem State.markStale_samePart (s : State) (row : RowNo) : s.samePart (s.markStale row) :=
  State.samePart_foldl _ (fun s c => s.markStaleAt_samePart (positionAt row c)) _ s

/-! ## Visits and passes (R106, R107, R110-R112, R119) -/

/-- R106, R107: the end of a visit, once its row's records are tested. -/
theorem State.endVisit_eq (s : State) :
    s.endVisit = if h : s.scanner.row.val + 1 < 10 then (s.markStale s.scanner.row).selectRow ⟨s.scanner.row + 1, h⟩
      else (s.markStale s.scanner.row).endPass := by
  have same : (s.markStale s.scanner.row).scanner = s.scanner := (s.markStale_samePart _).scanner
  unfold State.endVisit
  simp only [same]

theorem State.endPass_of_over (past : s.scanner.mode = .active ∨ s.scanner.passStart + s.scanner.watchPeriod * 1000 ≤ s.now) :
    s.endPass = s.selectRow 0 := by
  unfold State.endPass
  split
  · rfl
  · next watch =>
    exact if_neg (Nat.not_lt.2 (past.resolve_left (by simp [watch])))

theorem State.endPass_of_watch (watch : s.scanner.mode = .watch)
    (early : s.now < s.scanner.passStart + s.scanner.watchPeriod * 1000) :
    s.endPass = s.setScanner { s.scanner with
      row := 0, stage := .betweenPasses, watchTimer := some (s.scanner.passStart + s.scanner.watchPeriod * 1000) } := by
  unfold State.endPass
  rw [watch]
  exact if_pos early

/-- R110: what makes a column of the scanner's row the next to be asked for. -/
def State.wants (s : State) (c : ColumnNo) : Prop :=
  (∀ l, s.scanner.lastColumn = some l → l < c) ∧
    ∃ r x, (s.position (positionAt s.scanner.row c)).state = .held r ∧ s.record r = some x ∧
      (x.sampled = false ∨ x.restTime + s.settings.sampleInterval ≤ s.clock.seconds)

theorem ColumnNo.above_iff (c : ColumnNo) (last : Option ColumnNo) : ColumnNo.above c last = true ↔ ∀ l, last = some l → l < c := by
  cases last <;> simp [ColumnNo.above]

theorem State.due_iff (s : State) (p : PositionNo) : s.due p = true ↔ ∃ r x, (s.position p).state = .held r ∧ s.record r = some x ∧
    (x.sampled = false ∨ x.restTime + s.settings.sampleInterval ≤ s.clock.seconds) := by
  unfold State.due
  split
  · next r held =>
    split
    · next x inUse =>
      simp only [held, inUse, PositionState.held.injEq, Option.some.injEq, exists_and_left, exists_eq_left', Bool.or_eq_true,
        Bool.not_eq_true', decide_eq_true_eq]
      rfl
    · next free => simp [held, free]
  · next other => exact iff_of_false Bool.false_ne_true fun ⟨r, _, held, _⟩ => other r held

theorem State.wants_iff (s : State) (c : ColumnNo) :
    s.wants c ↔ (ColumnNo.above c s.scanner.lastColumn && s.due (positionAt s.scanner.row c)) = true := by
  rw [Bool.and_eq_true, ColumnNo.above_iff, State.due_iff]
  rfl

theorem State.dueTest_of_none (idle : ∀ c, ¬ s.wants c) : s.dueTest = s := by
  have next : s.nextDue = none := by
    rw [State.nextDue, List.find?_eq_none]
    exact fun c _ => mt (s.wants_iff c).2 (idle c)
  rw [State.dueTest, next]

theorem State.dueTest_of_wants {c : ColumnNo} (wanted : s.wants c) (lowest : ∀ d, d < c → ¬ s.wants d) :
    s.dueTest = (s.setScanner { s.scanner with lastColumn := some c }).askRack (positionAt s.scanner.row c) := by
  have next : s.nextDue = some c := find_finRange_eq_some.2
    ⟨(s.wants_iff c).1 wanted, fun d below => Bool.eq_false_iff.2 (mt (s.wants_iff d).2 (lowest d below))⟩
  rw [State.dueTest, next]

/-- R111, R112: a rack conversion's record goes to the pool, with the rack's mark cleared, and the converter moves on. -/
theorem exec_conversionComplete_of_rack {m : Moment} {p : PositionNo} (busy : s.arbiter.converter = .busy .rack m)
    (asked : s.arbiter.rackMark = some p) {v : Nat} {u : State}
    (delivered : State.deliverRack p v { s.reach m with arbiter := { s.arbiter with rackMark := none } } = u) (c : Nat) (t h : Int) :
    exec (.conversionComplete v c t h) s = .next (ConverterMovesOn .rack u) := by
  subst delivered
  change execConversionComplete v c t h s = _
  rw [execConversionComplete, busy]
  dsimp only
  rw [State.completeConversion, State.reach_arbiter, asked]
  rfl

section
variable {p : PositionNo} {v : Nat}

theorem State.deliverRack_of_dwell (dwell : s.scanner.stage = .dwell) : s.deliverRack p v = (s.shelfSample p v).dueTest := by
  rw [State.deliverRack, (s.shelfSample_samePart p v).scanner, dwell]

theorem State.deliverRack_of_tail (tail : s.scanner.stage = .tail) : s.deliverRack p v = (s.shelfSample p v).endVisit := by
  rw [State.deliverRack, (s.shelfSample_samePart p v).scanner, tail]

end

/-- Settles O49: the rows and passes, the due test, and the record that the rack asked for. -/
theorem aVisitSamplesItsRowAndThePassGoesOn : Obligations.AVisitSamplesItsRowAndThePassGoesOn := by
  refine ⟨fun s => ⟨fun inside => ?_, fun last early => ?finished, fun last watch early => ?waits⟩, fun s row => rfl,
    fun s => ⟨State.dueTest_of_none, fun c wanted lowest => State.dueTest_of_wants wanted lowest⟩,
    fun s m p v c t h busy asked => ?rack⟩
  · rw [State.endVisit_eq, dif_pos inside]
    rfl
  case finished =>
    have same := s.markStale_samePart s.scanner.row
    rw [State.endVisit_eq, dif_neg (by simp [last]), State.endPass_of_over]
    · rfl
    · rw [same.scanner, same.now]
      exact early
  case waits =>
    have same := s.markStale_samePart s.scanner.row
    rw [State.endVisit_eq, dif_neg (by simp [last]), State.endPass_of_watch (by rw [same.scanner]; exact watch)
      (by rw [same.scanner, same.now]; exact early), same.scanner]
    rfl
  case rack =>
    have stage : (s.reach m).scanner.stage = s.scanner.stage := congrArg Scanner.stage (State.reach_scanner ..)
    exact ⟨fun dwell => exec_conversionComplete_of_rack busy asked (State.deliverRack_of_dwell (stage.trans dwell)) c t h,
      fun tail => exec_conversionComplete_of_rack busy asked (State.deliverRack_of_tail (stage.trans tail)) c t h⟩

end Sys2Proof.Machine
end

section
/-! Shelf samples (05_the_module_pool_and_shelf_positions.md, 06_rack_scanning_and_shelf_watch.md; R94, R95, R97, R112-R115): the
baseline and the drift of a sample, and what a drift does to a grade; O50 and O51. -/

namespace Sys2Proof.Machine

variable {s : State} {p : PositionNo} {r : RecordNo} {x : Record} {v d : Nat}

/-! ## A sample (R94, R112-R114) -/

theorem freshened_eq (r : RecordNo) (stale : Bool) (s : State) : Freshened r stale s = if stale then s.freshen r else s := by
  cases stale with
  | false => rfl
  | true =>
    unfold Freshened State.freshen
    cases inUse : s.record r with
    | none => simp [State.updateRecord, inUse]
    | some x =>
      rw [State.updateRecord_of_some inUse]
      simp only [State.raise_record, State.setRecord_record_self]
      rfl

/-- R94: the sample joins the record, the baseline or drift follows, and then the freshness. -/
theorem State.shelfSample_of_held (held : (s.position p).state = .held r) (inUse : s.record r = some x) (v : Nat) :
    s.shelfSample p v = Freshened r x.stale
      ((s.setRecord r (some (WithSample v s.clock.seconds x))).updateDrift r (WithSample v s.clock.seconds x)) := by
  rw [freshened_eq, State.shelfSample, held]
  dsimp only
  rw [inUse]
  rfl

theorem State.shelfSample_of_other (other : ∀ r, (s.position p).state ≠ .held r) (v : Nat) : s.shelfSample p v = s := by
  unfold State.shelfSample
  split
  · next r held => exact absurd held (other r)
  · rfl

theorem State.updateDrift_of_none (unset : x.baseline = none) :
    s.updateDrift r x = s.setRecord r (some { x with baseline := some ⟨x.restVoltage, x.restTime⟩ }) := by
  rw [State.updateDrift, unset]

theorem State.updateDrift_of_early {b : Baseline} (set : x.baseline = some b)
    (early : x.restTime - b.time < s.settings.minObservation) : s.updateDrift r x = s := by
  rw [State.updateDrift, set]
  exact if_pos early

theorem State.updateDrift_of_late {b : Baseline} (set : x.baseline = some b)
    (late : s.settings.minObservation ≤ x.restTime - b.time) (drift : driftOf b x.restVoltage x.restTime x.cells = d) :
    s.updateDrift r x = (s.setRecord r (some { x with drift := some d })).gradeAction r { x with drift := some d } d := by
  subst drift
  rw [State.updateDrift, set]
  exact if_neg (Nat.not_lt.2 late)

/-! ## The grade action (R115) -/

theorem State.gradeAction_of_not_gradeable (fixed : x.state.gradeable = false) : s.gradeAction r x d = s := by
  unfold State.gradeAction
  rw [fixed]
  rfl

theorem State.gradeAction_of_low (low : d ≤ s.settings.downgrade) (kept : d ≤ s.settings.reject) : s.gradeAction r x d = s := by
  have calm : ¬ (s.settings.downgrade < d ∧ x.flags.downgraded = false) := fun both => Nat.not_lt.2 low both.1
  unfold State.gradeAction
  rw [if_neg (Nat.not_lt.2 kept), if_neg calm, ite_self]

theorem State.gradeAction_of_reject (gradeable : x.state.gradeable = true) (high : s.settings.reject < d) :
    s.gradeAction r x d = s.shelfReject r x d := by
  unfold State.gradeAction
  rw [gradeable, if_pos high]
  rfl

section
variable (gradeable : x.state.gradeable = true) (high : s.settings.downgrade < d) (kept : d ≤ s.settings.reject)

include kept in
theorem State.gradeAction_of_downgraded (before : x.flags.downgraded = true) : s.gradeAction r x d = s := by
  have done : ¬ (s.settings.downgrade < d ∧ x.flags.downgraded = false) := fun both => by simp [before] at both
  unfold State.gradeAction
  rw [if_neg (Nat.not_lt.2 kept), if_neg done, ite_self]

include gradeable high kept

theorem State.gradeAction_of_c (first : x.flags.downgraded = false) (grade : x.grade = .c) :
    s.gradeAction r x d = (s.setRecord r (some { x with flags := { x.flags with downgraded := true } })).shelfReject r
      { x with flags := { x.flags with downgraded := true } } d := by
  unfold State.gradeAction
  have falls : s.settings.downgrade < d ∧ x.flags.downgraded = false := ⟨high, first⟩
  rw [gradeable, Bool.not_true, if_neg Bool.false_ne_true, if_neg (Nat.not_lt.2 kept), if_pos falls, grade]

theorem State.gradeAction_of_a_or_b (first : x.flags.downgraded = false) (grade : x.grade = .a ∨ x.grade = .b) :
    s.gradeAction r x d = s.downgradeRecord r x d := by
  unfold State.gradeAction
  have falls : s.settings.downgrade < d ∧ x.flags.downgraded = false := ⟨high, first⟩
  rw [gradeable, Bool.not_true, if_neg Bool.false_ne_true, if_neg (Nat.not_lt.2 kept), if_pos falls]
  rcases grade with grade | grade <;> rw [grade]

end

/-! ## Rejects and downgrades (R97, R115, R138, R139) -/

/-- A vacated slot and a record's change do not meet. -/
theorem State.vacateSlot_setRecord (s : State) (r : RecordNo) (x : Option Record) (k : StringNo) (slot : Nat) :
    (s.setRecord r x).vacateSlot k slot = (s.vacateSlot k slot).setRecord r x := by
  unfold State.vacateSlot
  rw [State.setRecord_string]
  cases s.string k <;> rfl

/-- R97: the record of a shelf reject, with its event. -/
def State.rejected (r : RecordNo) (x : Record) (d : Nat) (s : State) : State :=
  (s.setRecord r (some { x with state := .rejected, grade := .r })).raise (.shelfReject r x.position x.grade d)

theorem State.shelfReject_of_available (available : x.state = .available) (y : Option Record) :
    (s.setRecord r y).shelfReject r x d = s.rejected r x d := by
  unfold State.shelfReject
  rw [available]
  dsimp only
  rw [State.setRecord_setRecord, State.rejected]

theorem State.shelfReject_of_reserved {k : StringNo} {slot : Nat} (reserved : x.state = .reserved k slot) (y : Option Record) :
    (s.setRecord r y).shelfReject r x d = ((s.vacateSlot k slot).rejected r x d).repairString k := by
  unfold State.shelfReject
  rw [reserved]
  dsimp only
  rw [State.vacateSlot_setRecord, State.setRecord_setRecord, State.rejected]

/-- R115: a record one grade lower, with its event. -/
def State.downgraded (r : RecordNo) (x : Record) (d : Nat) (s : State) : State :=
  (s.setRecord r (some x.downgraded)).raise (.downgraded r x.grade x.downgraded.grade d)

theorem State.downgradeRecord_setRecord (s : State) (r : RecordNo) (x : Record) (y : Option Record) (d : Nat) :
    (s.setRecord r y).downgradeRecord r x d = (s.downgraded r x d).recheckReservation r x.downgraded := by
  rw [State.downgradeRecord, State.setRecord_setRecord, State.downgraded]

theorem State.recheckReservation_of_available (available : x.state = .available) : s.recheckReservation r x = s := by
  rw [State.recheckReservation, available]

section
variable {k : StringNo} {slot : Nat} {e : StringEntry}

theorem State.recheckReservation_of_fit (reserved : x.state = .reserved k slot) (string : s.string k = some e)
    (fit : x.grade.rank ≤ e.request.minGrade.rank) : s.recheckReservation r x = s := by
  have limit : s.minGradeOf k = some e.request.minGrade := congrArg (Option.map fun y : StringEntry => y.request.minGrade) string
  have kept : x.grade.atLeast e.request.minGrade = true := decide_eq_true fit
  rw [State.recheckReservation, reserved]
  dsimp only
  rw [limit]
  exact if_pos kept

theorem State.recheckReservation_of_unfit (reserved : x.state = .reserved k slot) (string : s.string k = some e)
    (unfit : e.request.minGrade.rank < x.grade.rank) : s.recheckReservation r x =
      (((s.setRecord r (some { x with state := .available })).vacateSlot k slot).repairString k).retryRound := by
  have limit : s.minGradeOf k = some e.request.minGrade := congrArg (Option.map fun y : StringEntry => y.request.minGrade) string
  have below : x.grade.atLeast e.request.minGrade = false := decide_eq_false (Nat.not_le.2 unfit)
  rw [State.recheckReservation, reserved]
  dsimp only
  rw [limit]
  dsimp only
  rw [below]
  rfl

end

/-! ## The statements -/

/-- R113, R114: the record with its sample and its drift. -/
def Record.drifted (x : Record) (b : Baseline) (v : Nat) (time : Seconds) : Record :=
  { WithSample v time x with drift := some (DriftSince b v time x.cells) }

/-- R114, R115: a sample past the minimum observation time stores the drift and acts on the grade. -/
theorem State.shelfSample_of_late {b : Baseline} (held : (s.position p).state = .held r) (inUse : s.record r = some x)
    (set : x.baseline = some b) (late : s.settings.minObservation ≤ s.clock.seconds - b.time) (v : Nat) :
    s.shelfSample p v = Freshened r x.stale ((s.setRecord r (some (x.drifted b v s.clock.seconds))).gradeAction r
      (x.drifted b v s.clock.seconds) (DriftSince b v s.clock.seconds x.cells)) := by
  have drift := State.updateDrift_of_late (s := s.setRecord r (some (WithSample v s.clock.seconds x))) (r := r)
    (x := WithSample v s.clock.seconds x) set late rfl
  rw [State.shelfSample_of_held held inUse, drift, State.setRecord_setRecord]
  rfl

theorem State.markStaleAt_of_held (held : (s.position p).state = .held r) (inUse : s.record r = some x) :
    s.markStaleAt p = if x.stale = false ∧ s.settings.freshness < s.clock.seconds - x.restTime then
      (s.setRecord r (some { x with stale := true })).raise (.recordStale r) else s := by
  rw [State.markStaleAt, held]
  dsimp only
  rw [inUse]
  simp only [Bool.and_eq_true, Bool.not_eq_true', decide_eq_true_eq]
  rfl

/-- Settles O50: the equation of a sample by its baseline, its age and its record's state. -/
theorem aShelfSampleMeasuresTheDrift : Obligations.AShelfSampleMeasuresTheDrift := by
  refine ⟨fun s p v other => State.shelfSample_of_other other v, fun s p r x v held inUse => ⟨fun unset => ?first, fun b set =>
    ⟨fun early => ?early, fun late => ⟨fun low kept => ?low, fun rejected => ?rejected, fun high available => ?reject⟩⟩,
    State.markStaleAt_of_held held inUse⟩⟩
  case first =>
    rw [State.shelfSample_of_held held inUse, State.updateDrift_of_none (x := WithSample v s.clock.seconds x) unset, State.setRecord_setRecord]
    rfl
  case early =>
    have waits := State.updateDrift_of_early (s := s.setRecord r (some (WithSample v s.clock.seconds x))) (r := r)
      (x := WithSample v s.clock.seconds x) set early
    rw [State.shelfSample_of_held held inUse, waits]
  case low =>
    rw [State.shelfSample_of_late held inUse set late, State.gradeAction_of_low (by exact low) (by exact kept)]
    rfl
  case rejected =>
    rw [State.shelfSample_of_late held inUse set late, State.gradeAction_of_not_gradeable (by exact congrArg _ rejected)]
    rfl
  case reject =>
    rw [State.shelfSample_of_late held inUse set late, State.gradeAction_of_reject (by exact congrArg _ available) (by exact high),
      State.shelfReject_of_available (by exact available)]
    rfl

theorem Grade.lowered_of_a_or_b {g : Grade} (grade : g = .a ∨ g = .b) : g.lowered = if g = .a then .b else .c := by
  rcases grade with rfl | rfl <;> rfl

/-- Settles O51: the grade action by the drift, the record's flag, grade and state, and its string's minimum grade. -/
theorem aDriftActsOnTheGrade : Obligations.ADriftActsOnTheGrade := by
  intro s p r x v b held inUse set late
  have sample := State.shelfSample_of_late held inUse set late v
  refine ⟨fun k slot reserved high => ?reject, fun high kept state => ?downgrade⟩
  case reject =>
    rw [sample, State.gradeAction_of_reject (by exact congrArg RecordState.gradeable reserved) (by exact high),
      State.shelfReject_of_reserved (by exact reserved)]
    rfl
  case downgrade =>
    have gradeable : (x.drifted b v s.clock.seconds).state.gradeable = true := by
      rcases state with available | ⟨k, slot, reserved⟩
      · exact congrArg RecordState.gradeable available
      · exact congrArg RecordState.gradeable reserved
    refine ⟨fun before => ?before, fun first grade => ?c, fun first grade => ?lower⟩
    case before =>
      rw [sample, State.gradeAction_of_downgraded (by exact kept) (by exact before)]
      rfl
    case c =>
      have action := State.gradeAction_of_c (s := s.setRecord r (some (x.drifted b v s.clock.seconds))) (r := r) gradeable high kept
        first grade
      refine ⟨fun available => ?_, fun k slot reserved => ?_⟩
      · rw [sample, action, State.shelfReject_of_available (by exact available), State.rejected, State.setRecord_setRecord]
        rfl
      · rw [sample, action, State.shelfReject_of_reserved (by exact reserved), State.rejected, State.vacateSlot_setRecord,
          State.setRecord_setRecord]
        rfl
    case lower =>
      have action := State.gradeAction_of_a_or_b (s := s.setRecord r (some (x.drifted b v s.clock.seconds))) (r := r) gradeable high
        kept first grade
      have lowered := Grade.lowered_of_a_or_b grade
      rw [State.downgradeRecord_setRecord, State.downgraded, Record.downgraded] at action
      dsimp only [Record.drifted, WithSample] at action
      rw [lowered] at action
      refine ⟨fun available => ?_, fun k slot e reserved string => ⟨fun fit => ?_, fun unfit => ?_⟩⟩
      · rw [sample]
        exact congrArg _ (action.trans (State.recheckReservation_of_available available))
      · rw [sample]
        exact congrArg _ (action.trans (State.recheckReservation_of_fit reserved (by rw [State.raise_string]; exact string) fit))
      · rw [sample]
        exact congrArg _ (action.trans (State.recheckReservation_of_unfit reserved (by rw [State.raise_string]; exact string) unfit))

end Sys2Proof.Machine
end

section
/-! The window search (07_string_pairing.md; R128-R130): the order of the candidates, its windows, and the choice among them; O53. -/

namespace Sys2Proof.Machine

variable {m : StringMode}

/-! ## The order of the candidates (R128, R130) -/

/-- Candidates stand in ascending order of the mode's figure. -/
abbrev StringMode.ascending (m : StringMode) (cs : List Candidate) : Prop :=
  cs.Pairwise fun c d => m.primary c.values ≤ m.primary d.values

theorem insertByPrimary_perm (m : StringMode) (c : Candidate) (ds : List Candidate) : (insertByPrimary m c ds).Perm (c :: ds) := by
  induction ds with
  | nil => rfl
  | cons d ds ih =>
    unfold insertByPrimary
    split
    · rfl
    · exact (ih.cons d).trans (.swap ..)

theorem insertByPrimary_ascending {c : Candidate} {ds : List Candidate} (sorted : m.ascending ds) :
    m.ascending (insertByPrimary m c ds) := by
  induction ds with
  | nil => exact List.pairwise_singleton ..
  | cons d ds ih =>
    obtain ⟨lowest, later⟩ := List.pairwise_cons.1 sorted
    unfold insertByPrimary
    split
    · next before =>
      refine List.pairwise_cons.2 ⟨fun e member => ?_, sorted⟩
      rcases List.mem_cons.1 member with rfl | member
      · exact Nat.le_of_lt before
      · exact Nat.le_trans (Nat.le_of_lt before) (lowest e member)
    · next after =>
      refine List.pairwise_cons.2 ⟨fun e member => ?_, ih later⟩
      rcases mem_insertByPrimary member with rfl | member
      · exact Nat.le_of_not_lt after
      · exact lowest e member

/-- R128: a candidate joins those of an equal figure at their end. -/
theorem filter_insertByPrimary {c : Candidate} {ds : List Candidate} (sorted : m.ascending ds) (n : Nat) :
    (insertByPrimary m c ds).filter (fun e => m.primary e.values == n) =
      ds.filter (fun e => m.primary e.values == n) ++ [c].filter fun e => m.primary e.values == n := by
  induction ds with
  | nil => rfl
  | cons d ds ih =>
    obtain ⟨lowest, later⟩ := List.pairwise_cons.1 sorted
    unfold insertByPrimary
    split
    · next before =>
      by_cases equal : m.primary c.values = n
      · have none_left : (d :: ds).filter (fun e => m.primary e.values == n) = [] := by
          refine List.filter_eq_nil_iff.2 fun e member => ?_
          have above : m.primary d.values ≤ m.primary e.values := by
            rcases List.mem_cons.1 member with rfl | member
            · exact Nat.le_refl _
            · exact lowest e member
          simp only [beq_iff_eq]
          omega
        rw [none_left, List.nil_append, ← List.singleton_append, List.filter_append, none_left, List.append_nil]
      · simp [equal]
    · rw [List.filter_cons, ih later, List.filter_cons (x := d) (xs := ds)]
      split <;> rfl

theorem foldl_insertByPrimary (m : StringMode) (cs : List Candidate) : ∀ sorted : List Candidate, m.ascending sorted →
    let all := cs.foldl (fun sorted c => insertByPrimary m c sorted) sorted
    all.Perm (sorted ++ cs) ∧ m.ascending all ∧ ∀ n, all.filter (fun e => m.primary e.values == n) =
      sorted.filter (fun e => m.primary e.values == n) ++ cs.filter fun e => m.primary e.values == n := by
  induction cs with
  | nil => exact fun sorted ascending => ⟨by simp, ascending, by simp⟩
  | cons c cs ih =>
    intro sorted ascending
    obtain ⟨perm, order, stable⟩ := ih _ (insertByPrimary_ascending (c := c) ascending)
    refine ⟨perm.trans (((insertByPrimary_perm m c sorted).append_right cs).trans List.perm_middle.symm), order, fun n => ?_⟩
    rw [List.foldl_cons, stable, filter_insertByPrimary ascending, List.append_assoc, ← List.filter_append, List.singleton_append]

theorem sortByPrimary_perm (m : StringMode) (cs : List Candidate) : (sortByPrimary m cs).Perm cs :=
  (foldl_insertByPrimary m cs [] .nil).1

theorem sortByPrimary_ascending (m : StringMode) (cs : List Candidate) : m.ascending (sortByPrimary m cs) :=
  (foldl_insertByPrimary m cs [] .nil).2.1

theorem filter_sortByPrimary (m : StringMode) (cs : List Candidate) (n : Nat) :
    (sortByPrimary m cs).filter (fun e => m.primary e.values == n) = cs.filter fun e => m.primary e.values == n :=
  (foldl_insertByPrimary m cs [] .nil).2.2 n

/-! ## The windows (R128) -/

theorem mem_windows_iff {n : Nat} (some_length : 0 < n) {w : List Candidate} (cs : List Candidate) :
    w ∈ windows n cs ↔ w.length = n ∧ w <:+: cs := by
  induction cs with
  | nil =>
    refine iff_of_false List.not_mem_nil fun ⟨length, run⟩ => ?_
    rw [List.infix_nil.1 run] at length
    exact absurd length (Nat.ne_of_lt some_length)
  | cons c cs ih =>
    unfold windows
    split
    · next fits =>
      have first : w = (c :: cs).take n ↔ w.length = n ∧ w <+: c :: cs := by
        constructor
        · rintro rfl
          exact ⟨List.length_take_of_le fits, List.take_prefix ..⟩
        · rintro ⟨rfl, run⟩
          exact List.prefix_iff_eq_take.1 run
      rw [List.mem_cons, ih, first, List.infix_cons_iff, ← and_or_left]
    · next short =>
      refine iff_of_false List.not_mem_nil fun ⟨length, run⟩ => short ?_
      rw [← length]
      exact run.length_le

/-! ## The choice (R129, R130) -/

/-- R129, R130: what a window that displaces another is better in. -/
theorem StringMode.beats_iff {w best : List Candidate} : m.beats w best = true ↔
    m.windowSpread w < m.windowSpread best ∨ m.windowSpread w = m.windowSpread best ∧
      (m = .capacity → m.windowLowest best < m.windowLowest w) ∧ (m = .resistance → m.windowLowest w < m.windowLowest best) := by
  unfold StringMode.beats
  cases m <;> simp

theorem StringMode.beats_trans {v w x : List Candidate} (first : m.beats w x = true) (second : m.beats x v = true) :
    m.beats w v = true := by
  rw [StringMode.beats_iff] at *
  cases m <;> simp only [reduceCtorEq, forall_const, false_implies, and_true, true_and] at * <;> omega

theorem StringMode.beats_of_not_beats {v w x : List Candidate} (first : m.beats w x = true) (second : m.beats v x = false) :
    m.beats w v = true := by
  rw [← Bool.not_eq_true, StringMode.beats_iff] at second
  rw [StringMode.beats_iff] at *
  cases m <;> simp only [reduceCtorEq, forall_const, false_implies, and_true, true_and] at * <;> omega

theorem chooseWindow_concat (m : StringMode) (ws : List (List Candidate)) (w : List Candidate) :
    chooseWindow m (ws ++ [w]) = match chooseWindow m ws with
      | none => some w
      | some x => if m.beats w x then some w else some x := by
  rw [chooseWindow, List.foldl_append]
  rfl

theorem chooseWindow_eq_none {ws : List (List Candidate)} : chooseWindow m ws = none ↔ ws = [] := by
  cases ws using List.reverseRecOn with
  | nil => exact iff_of_true rfl rfl
  | append_singleton ws w =>
    refine iff_of_false ?_ (by simp)
    rw [chooseWindow_concat]
    split
    · simp
    · split <;> simp

/-- The window chosen beats every one before it, and none after it beats it. -/
theorem chooseWindow_eq_some {ws : List (List Candidate)} {w : List Candidate} (chosen : chooseWindow m ws = some w) :
    ∃ before after, ws = before ++ w :: after ∧ (∀ v ∈ before, m.beats w v = true) ∧ ∀ v ∈ after, m.beats v w = false := by
  induction ws using List.reverseRecOn generalizing w with
  | nil => exact absurd chosen (by simp [chooseWindow])
  | append_singleton ws u ih =>
    rw [chooseWindow_concat] at chosen
    split at chosen
    · next empty =>
      cases chosen
      rw [chooseWindow_eq_none.1 empty]
      exact ⟨[], [], rfl, by simp, by simp⟩
    · next x earlier =>
      split at chosen
      · next better =>
        cases chosen
        obtain ⟨before, after, rfl, first, last⟩ := ih earlier
        refine ⟨_, [], rfl, fun v member => ?_, by simp⟩
        rcases List.mem_append.1 member with member | member
        · exact StringMode.beats_trans better (first v member)
        · rcases List.mem_cons.1 member with rfl | member
          · exact better
          · exact StringMode.beats_of_not_beats better (last v member)
      · next worse =>
        cases chosen
        obtain ⟨before, after, parts, first, last⟩ := ih earlier
        refine ⟨before, after ++ [u], by rw [parts, List.append_assoc, List.cons_append], first, fun v member => ?_⟩
        rcases List.mem_append.1 member with member | member
        · exact last v member
        · rw [List.mem_singleton.1 member]
          exact Bool.eq_false_iff.2 worse

theorem StringMode.not_beats_of_beats {v w : List Candidate} (better : m.beats w v = true) : m.beats v w = false := by
  rw [← Bool.not_eq_true, StringMode.beats_iff]
  rw [StringMode.beats_iff] at better
  cases m <;> simp only [reduceCtorEq, forall_const, false_implies, and_true, true_and] at * <;> omega

/-- R129, R130: what a window that another does not beat is at least as good in. -/
theorem StringMode.atLeast_of_not_beats {v w : List Candidate} (kept : m.beats v w = false) :
    m.windowSpread w ≤ m.windowSpread v ∧ (m.windowSpread w = m.windowSpread v →
      (m = .capacity → m.windowLowest v ≤ m.windowLowest w) ∧ (m = .resistance → m.windowLowest w ≤ m.windowLowest v)) := by
  rw [← Bool.not_eq_true, StringMode.beats_iff] at kept
  cases m <;> simp only [reduceCtorEq, forall_const, false_implies, and_true, true_and] at * <;> omega

theorem StringMode.not_equal_of_beats {v w : List Candidate} (better : m.beats w v = true) :
    ¬ (m.windowSpread v = m.windowSpread w ∧ m.windowLowest v = m.windowLowest w) := by
  rw [StringMode.beats_iff] at better
  cases m <;> simp only [reduceCtorEq, forall_const, false_implies, and_true, true_and] at * <;> omega

/-- A window chosen among those that a test lets pass stands in the whole list with the same ones before and after it. -/
theorem chooseWindow_filter {ws : List (List Candidate)} {fit : List Candidate → Bool} {w : List Candidate}
    (chosen : chooseWindow m (ws.filter fit) = some w) :
    ∃ before after, ws = before ++ w :: after ∧ fit w = true ∧ (∀ v ∈ before, fit v = true → m.beats w v = true) ∧
      ∀ v ∈ after, fit v = true → m.beats v w = false := by
  obtain ⟨first, last, parts, better, kept⟩ := chooseWindow_eq_some chosen
  obtain ⟨before, rest, rfl, rfl, split_rest⟩ := List.filter_eq_append_iff.1 parts
  obtain ⟨skipped, after, rfl, unfit, fits, rfl⟩ := List.filter_eq_cons_iff.1 split_rest
  refine ⟨before ++ skipped, after, by rw [List.append_assoc], fits, fun v member within => ?_, fun v member within =>
    kept v (List.mem_filter.2 ⟨member, within⟩)⟩
  rcases List.mem_append.1 member with member | member
  · exact better v (List.mem_filter.2 ⟨member, within⟩)
  · exact absurd within (unfit v member)

/-- Settles O53: the order, its windows, and the choice among those that qualify. -/
theorem theChosenWindowIsTheBest : Obligations.TheChosenWindowIsTheBest := by
  refine fun q cs => ⟨sortByPrimary_perm .., sortByPrimary_ascending .., filter_sortByPrimary q.mode cs,
    fun w some_length => mem_windows_iff some_length _, ?none, fun w found => ?best⟩
  case none =>
    rw [StringRequest.search, chooseWindow_eq_none, List.filter_eq_nil_iff]
    simp only [Bool.not_eq_true]
  case best =>
    obtain ⟨before, after, parts, fits, better, kept⟩ := chooseWindow_filter found
    refine ⟨by rw [parts]; simp, fits, fun v member within => StringMode.atLeast_of_not_beats ?_, before, after, parts,
      fun v member within => StringMode.not_equal_of_beats (better v member within)⟩
    rw [parts, List.mem_append, List.mem_cons] at member
    rcases member with member | rfl | member
    · exact StringMode.not_beats_of_beats (better v member within)
    · rw [← Bool.not_eq_true, StringMode.beats_iff]
      cases q.mode <;> simp
    · exact kept v member within

end Sys2Proof.Machine
end

section
/-! Reservations and substitutions (07_string_pairing.md; R125, R126, R131, R134, R139-R142): the eligible records, what a reservation
of several slots leaves, the choice of substitutes, repairs and retries; O54. -/

namespace Sys2Proof.Machine

variable {s : State} {k : StringNo} {q : StringRequest}

/-! ## Eligible records (R126) -/

theorem StringRequest.accepts_iff (q : StringRequest) (x : Record) : q.accepts x = true ↔ x.state = .available ∧ x.stale = false ∧
    x.profile = q.profile ∧ x.cells = q.cells ∧ x.grade.rank ≤ q.minGrade.rank ∧ (q.mode = .capacity → x.capacity ≠ none) := by
  have capacity : (q.mode = .resistance ∨ x.capacity.isSome = true) ↔ (q.mode = .capacity → x.capacity ≠ none) := by
    cases q.mode <;> simp [Option.isSome_iff_ne_none]
  simp only [StringRequest.accepts, Bool.and_eq_true, Bool.or_eq_true, beq_iff_eq, Bool.not_eq_true', Grade.atLeast, decide_eq_true_eq,
    capacity, and_assoc]

/-- R126: a record's place among the eligible. -/
def State.candidate (q : StringRequest) (s : State) (r : RecordNo) : Option Candidate :=
  match s.record r with
  | some x => if q.accepts x then some ⟨r, x.values⟩ else none
  | none => none

theorem State.eligible_eq (q : StringRequest) (s : State) : s.eligible q = (List.finRange 240).filterMap (s.candidate q) := rfl

theorem State.candidate_eq_some {r : RecordNo} {c : Candidate} : s.candidate q r = some c ↔
    c.record = r ∧ ∃ x, s.record r = some x ∧ c.values = x.values ∧ q.accepts x = true := by
  unfold State.candidate
  cases inUse : s.record r with
  | none => simp
  | some x =>
    cases accepted : q.accepts x with
    | false => simp [accepted]
    | true =>
      simp only [if_true, Option.some.injEq, exists_eq_left', accepted, and_true]
      constructor
      · rintro rfl
        exact ⟨rfl, rfl⟩
      · rintro ⟨rfl, values⟩
        rw [← values]

theorem State.mem_eligible {c : Candidate} :
    c ∈ s.eligible q ↔ ∃ x, s.record c.record = some x ∧ c.values = x.values ∧ q.accepts x = true := by
  simp [State.eligible_eq, State.candidate_eq_some]

/-- R81, R126: the eligible records stand in ascending index. -/
theorem State.eligible_ascending (q : StringRequest) (s : State) : (s.eligible q).Pairwise fun c d => c.record < d.record := by
  rw [State.eligible_eq]
  refine List.Pairwise.filterMap _ (fun i j below c found d found' => ?_) (List.pairwise_lt_finRange 240)
  rw [(State.candidate_eq_some.1 found).1, (State.candidate_eq_some.1 found').1]
  exact below

theorem sublist_of_mem_windows {n : Nat} {w : List Candidate} {cs : List Candidate} (member : w ∈ windows n cs) : w.Sublist cs := by
  induction cs with
  | nil => exact absurd member List.not_mem_nil
  | cons c cs ih =>
    unfold windows at member
    split at member
    · rcases List.mem_cons.1 member with rfl | later
      · exact List.take_sublist ..
      · exact (ih later).cons c
    · exact absurd member List.not_mem_nil

/-- R128: a window holds each record once. -/
theorem State.search_distinct {w : List Candidate} (found : q.search (s.eligible q) = some w) :
    w.Pairwise fun c d => c.record ≠ d.record := by
  have distinct : ((s.eligible q).map Candidate.record).Nodup :=
    List.pairwise_map.2 ((s.eligible_ascending q).imp Fin.ne_of_lt)
  have sorted := ((sortByPrimary_perm q.mode (s.eligible q)).map Candidate.record).nodup_iff.2 distinct
  have part : w.Sublist (sortByPrimary q.mode (s.eligible q)) :=
    sublist_of_mem_windows (List.mem_filter.1 (mem_chooseWindow found)).1
  exact List.pairwise_map.1 (sorted.sublist (part.map _))

/-! ## Reservations of several slots (R125, R131, R141) -/

/-- Records reserved for a string, each in its slot. -/
def State.reserveEach (k : StringNo) (fills : List (Nat × Candidate)) (s : State) : State :=
  fills.foldl (fun t f => t.reserveRecord k f.1 f.2.record) s

@[simp] theorem State.reserveEach_cons (k : StringNo) (f : Nat × Candidate) (fills : List (Nat × Candidate)) (s : State) :
    s.reserveEach k (f :: fills) = (s.reserveRecord k f.1 f.2.record).reserveEach k fills := rfl

theorem State.reserveRecord_frame (s : State) (k : StringNo) (slot : Nat) (r : RecordNo) :
    { s.reserveRecord k slot r with records := s.records } = s := by
  unfold State.reserveRecord State.updateRecord
  split <;> rfl

theorem State.reserveEach_frame (k : StringNo) (fills : List (Nat × Candidate)) (s : State) :
    { s.reserveEach k fills with records := s.records } = s := by
  induction fills generalizing s with
  | nil => rfl
  | cons f fills ih =>
    have later := congrArg (fun t : State => { t with records := s.records }) (ih (s.reserveRecord k f.1 f.2.record))
    exact Eq.trans later (s.reserveRecord_frame ..)

theorem State.reserveEach_string (fills : List (Nat × Candidate)) (s : State) (j : StringNo) :
    (s.reserveEach k fills).string j = s.string j := by
  have strings := congrArg (State.string j) (State.reserveEach_frame k fills s)
  exact strings

theorem State.reserveEach_events (fills : List (Nat × Candidate)) (s : State) : (s.reserveEach k fills).events = s.events := by
  have events := congrArg State.events (State.reserveEach_frame k fills s)
  exact events

theorem State.reserveRecord_record_self {r : RecordNo} {x : Record} (inUse : s.record r = some x) (slot : Nat) :
    (s.reserveRecord k slot r).record r = some { x with state := .reserved k slot } := by
  rw [State.reserveRecord, State.updateRecord_of_some inUse, State.setRecord_record_self]

theorem State.reserveRecord_record_of_ne {r i : RecordNo} (other : r ≠ i) (slot : Nat) :
    (s.reserveRecord k slot r).record i = s.record i := by
  unfold State.reserveRecord State.updateRecord
  split
  · rw [State.setRecord_record, if_neg other]
  · rfl

theorem State.reserveEach_record_of_other {fills : List (Nat × Candidate)} {r : RecordNo} (other : ∀ f ∈ fills, f.2.record ≠ r) :
    (s.reserveEach k fills).record r = s.record r := by
  induction fills generalizing s with
  | nil => rfl
  | cons f fills ih =>
    rw [State.reserveEach_cons, ih fun g member => other g (List.mem_cons_of_mem _ member),
      State.reserveRecord_record_of_ne (other f List.mem_cons_self)]

theorem State.reserveEach_record_of_mem {fills : List (Nat × Candidate)} (distinct : fills.Pairwise fun f g => f.2.record ≠ g.2.record)
    {f : Nat × Candidate} (member : f ∈ fills) {x : Record} (inUse : s.record f.2.record = some x) :
    (s.reserveEach k fills).record f.2.record = some { x with state := .reserved k f.1 } := by
  induction fills generalizing s with
  | nil => exact absurd member List.not_mem_nil
  | cons g fills ih =>
    obtain ⟨unlike, later⟩ := List.pairwise_cons.1 distinct
    rw [State.reserveEach_cons]
    rcases List.mem_cons.1 member with rfl | member
    · rw [State.reserveEach_record_of_other fun g member => (unlike g member).symm, State.reserveRecord_record_self inUse]
    · exact ih later member (by rw [State.reserveRecord_record_of_ne (unlike f member)]; exact inUse)

theorem State.setString_setString (s : State) (k : StringNo) (x y : Option StringEntry) :
    (s.setString k x).setString k y = s.setString k y := by
  simp [State.setString, State.setStrings]

theorem State.reserveRecord_setString (s : State) (k j : StringNo) (x : Option StringEntry) (slot : Nat) (r : RecordNo) :
    (s.setString k x).reserveRecord j slot r = (s.reserveRecord j slot r).setString k x := by
  unfold State.reserveRecord State.updateRecord
  rw [State.setString_record]
  cases s.record r <;> rfl

theorem State.reserveAll_eq (k : StringNo) (w : List Candidate) (slot : Nat) (s : State) :
    s.reserveAll k slot w = s.reserveEach k (w.mapIdx fun i c => (slot + i, c)) := by
  induction w generalizing slot s with
  | nil => rfl
  | cons c w ih =>
    rw [State.reserveAll, ih, List.mapIdx_cons, State.reserveEach_cons]
    simp only [Nat.add_zero, Nat.add_comm, Nat.add_left_comm]

/-- R141: the slot list with some slots reserved. -/
def fillAll (fills : List (Nat × Candidate)) (slots : List Slot) : List Slot :=
  fills.foldl (fun l f => l.set f.1 (.reserved f.2.record f.2.values)) slots

theorem State.commitSubstitutes_eq (k : StringNo) (x : StringEntry) (fills : List (Nat × Candidate)) (s : State) :
    (s.setString k (some x)).commitSubstitutes k fills =
      (s.setString k (some { x with slots := fillAll fills x.slots })).reserveEach k fills := by
  induction fills generalizing x s with
  | nil => rfl
  | cons f fills ih =>
    rw [State.commitSubstitutes, State.setString_string_self]
    dsimp only
    rw [State.setString_setString, State.reserveRecord_setString, ih, ← State.reserveRecord_setString, State.reserveEach_cons]
    rfl

theorem State.raiseAll_frame (ws : List Happening) (s : State) : { s.raiseAll ws with events := s.events } = s := by
  induction ws generalizing s with
  | nil => rfl
  | cons w ws ih =>
    have later := congrArg (fun t : State => { t with events := s.events }) (ih (s.raise w))
    refine Eq.trans later ?_
    rw [State.raise_eq]
    rfl

/-- The events queued depend on the events, the settings and the clock before alone. -/
theorem State.raiseAll_events (ws : List Happening) {s t : State} (events : t.events = s.events) (settings : t.settings = s.settings)
    (clock : t.clock = s.clock) : (t.raiseAll ws).events = (s.raiseAll ws).events := by
  induction ws generalizing s t with
  | nil => exact events
  | cons w ws ih =>
    refine ih ?_ (by simpa using settings) (by simpa using clock)
    rw [State.raise_eq, State.raise_eq, events, settings, State.now, State.seconds, clock]
    rfl

/-- R131, R141: what a slot list written, its records reserved, and the events of it leave. -/
theorem reservedFor_of_distinct (e : StringEntry) {fills : List (Nat × Candidate)}
    (distinct : fills.Pairwise fun f g => f.2.record ≠ g.2.record) (inUse : ∀ f ∈ fills, ∃ x, s.record f.2.record = some x)
    (ws : List Happening) : ReservedFor k e fills ws s (((s.setString k (some e)).reserveEach k fills).raiseAll ws) := by
  have raised := State.raiseAll_frame ws ((s.setString k (some e)).reserveEach k fills)
  have reserved := State.reserveEach_frame k fills (s.setString k (some e))
  have record (r : RecordNo) := congrArg (State.record r) raised
  have string (j : StringNo) := congrArg (State.string j) raised
  have settings := congrArg State.settings reserved
  have clock := congrArg State.clock reserved
  refine ⟨?_, fun i c member => ?_, fun r other => ?_, fun j other => ?_, ?_, ?_⟩
  · exact (string k).trans ((State.reserveEach_string fills _ k).trans (State.setString_string_self ..))
  · obtain ⟨x, here⟩ := inUse (i, c) member
    exact ⟨x, here, (record c.record).trans (State.reserveEach_record_of_mem distinct member here)⟩
  · exact (record r).trans (State.reserveEach_record_of_other fun f member => other f.1 f.2 member)
  · refine (string j).trans ((State.reserveEach_string fills _ j).trans ?_)
    rw [State.setString_string, if_neg (Ne.symm other)]
  · exact State.raiseAll_events ws (State.reserveEach_events fills _) settings clock
  · have before := congrArg (fun t : State => { t with records := s.records, strings := s.strings, events := s.events }) raised
    have first := congrArg (fun t : State => { t with records := s.records, strings := s.strings, events := s.events }) reserved
    exact before.trans first

/-! ## The choice of a substitute (R140) -/

/-- The first of some candidates with the smallest figure. -/
def leastBy (figure : Candidate → Nat) (cs : List Candidate) : Option Candidate :=
  cs.foldl (fun best c => match best with
    | none => some c
    | some d => if figure c < figure d then some c else some d) none

section
variable {figure : Candidate → Nat} {cs : List Candidate} {c : Candidate}

theorem leastBy_concat (figure : Candidate → Nat) (cs : List Candidate) (c : Candidate) :
    leastBy figure (cs ++ [c]) = match leastBy figure cs with
      | none => some c
      | some d => if figure c < figure d then some c else some d := by
  rw [leastBy, List.foldl_append]
  rfl

theorem leastBy_eq_none : leastBy figure cs = none ↔ cs = [] := by
  cases cs using List.reverseRecOn with
  | nil => exact iff_of_true rfl rfl
  | append_singleton cs c =>
    refine iff_of_false ?_ (by simp)
    rw [leastBy_concat]
    split
    · simp
    · split <;> simp

theorem leastBy_eq_some (found : leastBy figure cs = some c) :
    ∃ before after, cs = before ++ c :: after ∧ (∀ d ∈ before, figure c < figure d) ∧ ∀ d ∈ after, figure c ≤ figure d := by
  induction cs using List.reverseRecOn generalizing c with
  | nil => exact absurd found (by simp [leastBy])
  | append_singleton cs e ih =>
    rw [leastBy_concat] at found
    split at found
    · next empty =>
      cases found
      rw [leastBy_eq_none.1 empty]
      exact ⟨[], [], rfl, by simp, by simp⟩
    · next earlier =>
      obtain ⟨before, after, rfl, first, last⟩ := ih earlier
      split at found
      · next less =>
        cases found
        refine ⟨_, [], rfl, fun d member => ?_, by simp⟩
        rcases List.mem_append.1 member with member | member
        · exact Nat.lt_trans less (first d member)
        · rcases List.mem_cons.1 member with rfl | member
          · exact less
          · exact Nat.lt_of_lt_of_le less (last d member)
      · next more =>
        cases found
        refine ⟨before, after ++ [e], by rw [List.append_assoc, List.cons_append], first, fun d member => ?_⟩
        rcases List.mem_append.1 member with member | member
        · exact last d member
        · rw [List.mem_singleton.1 member]
          exact Nat.le_of_not_lt more

/-- R140: the smallest figure, and of equal figures the lowest index. -/
theorem leastBy_spec (ascending : cs.Pairwise fun c d => c.record < d.record) (found : leastBy figure cs = some c) :
    c ∈ cs ∧ ∀ d ∈ cs, figure c ≤ figure d ∧ (figure c = figure d → c.record.val ≤ d.record.val) := by
  obtain ⟨before, after, rfl, first, last⟩ := leastBy_eq_some found
  have later := (List.pairwise_cons.1 (List.pairwise_append.1 ascending).2.1).1
  refine ⟨by simp, fun d member => ?_⟩
  rcases List.mem_append.1 member with member | member
  · exact ⟨Nat.le_of_lt (first d member), fun equal => absurd equal (Nat.ne_of_lt (first d member))⟩
  · rcases List.mem_cons.1 member with rfl | member
    · exact ⟨Nat.le_refl _, fun _ => Nat.le_refl _⟩
    · exact ⟨last d member, fun _ => Nat.le_of_lt (later d member)⟩

theorem StringRequest.chooseSubstitute_eq (q : StringRequest) (working : List SlotValues) (cs : List Candidate) :
    q.chooseSubstitute working cs = leastBy (fun c => spread q.mode.primary (c.values :: working))
      (cs.filter fun c => q.within (c.values :: working)) := rfl

end

/-- R140: the substitution by its own equations is the one that the rules describe. -/
theorem StringRequest.substitutionIs_substitutes (q : StringRequest) (slots : List Slot) : ∀ (i : Nat) (working : List SlotValues)
    (cs : List Candidate), (cs.Pairwise fun c d => c.record < d.record) →
    SubstitutionIs q i slots working cs (q.substitutes i slots working cs) := by
  induction slots with
  | nil =>
    intro i working cs _
    rw [SubstitutionIs, StringRequest.substitutes]
  | cons slot slots ih =>
    intro i working cs ascending
    cases slot with
    | reserved r v =>
      rw [SubstitutionIs, StringRequest.substitutes]
      · exact ih (i + 1) working cs ascending
      · simp
    | picked v n time =>
      rw [SubstitutionIs, StringRequest.substitutes]
      · exact ih (i + 1) working cs ascending
      · simp
    | vacant =>
      rw [SubstitutionIs, StringRequest.substitutes]
      cases chosen : q.chooseSubstitute working cs with
      | none =>
        rw [StringRequest.chooseSubstitute_eq, leastBy_eq_none, List.filter_eq_nil_iff] at chosen
        exact .inl ⟨fun c member => Bool.eq_false_iff.2 (chosen c member), rfl⟩
      | some c =>
        rw [StringRequest.chooseSubstitute_eq] at chosen
        obtain ⟨member, least⟩ := leastBy_spec (ascending.filter _) chosen
        obtain ⟨member, fits⟩ := List.mem_filter.1 member
        refine .inr ⟨c, member, fits, fun d here within => least d (List.mem_filter.2 ⟨here, within⟩), _,
          ih (i + 1) (c.values :: working) _ (ascending.filter _), ?_⟩
        dsimp only
        split
        · next failed => rw [failed]; rfl
        · next rest filled => rw [filled]; rfl

theorem StringRequest.substitutes_distinct {slots : List Slot} {fills : List (Nat × Candidate)} : ∀ {i : Nat}
    {working : List SlotValues} {cs : List Candidate}, q.substitutes i slots working cs = some fills →
    fills.Pairwise fun f g => f.2.record ≠ g.2.record := by
  induction slots generalizing fills with
  | nil =>
    intro i working cs filled
    rw [StringRequest.substitutes] at filled
    cases filled
    exact .nil
  | cons slot slots ih =>
    intro i working cs filled
    cases slot with
    | reserved r v => exact ih (by simpa [StringRequest.substitutes] using filled)
    | picked v n time => exact ih (by simpa [StringRequest.substitutes] using filled)
    | vacant =>
      rw [StringRequest.substitutes] at filled
      split at filled
      · cases filled
      · next c _ =>
        split at filled
        · cases filled
        · next rest later =>
          cases filled
          refine List.pairwise_cons.2 ⟨fun f member => ?_, ih later⟩
          have other := (List.mem_filter.1 (StringRequest.mem_substitutes later f member)).2
          exact fun same => by simp [← same] at other

/-! ## Repairs and retries (R134, R139, R141) -/

section
variable {x : StringEntry}

theorem State.fillSlots_eq (s : State) (k : StringNo) (x : StringEntry) (fills : List (Nat × Candidate)) :
    s.fillSlots k x fills = ((s.setString k (some { x with state := .picking, slots := fillAll fills x.slots })).reserveEach k
      fills).raiseAll (slotsReplaced k fills) := by
  rw [State.fillSlots, State.commitSubstitutes_eq]

theorem State.reserveWindow_eq (s : State) (k : StringNo) (x : StringEntry) (w : List Candidate) :
    s.reserveWindow k x w = ((s.setString k (some { x with
      state := .picking, slots := w.map fun c => .reserved c.record c.values })).reserveEach k
        (w.mapIdx fun i c => (i, c))).raiseAll [.stringReserved k x.request.length (w.map (·.record))] := by
  rw [State.reserveWindow, State.reserveAll_eq]
  simp only [Nat.zero_add]
  rfl

theorem State.fillSlots_reservedFor {fills : List (Nat × Candidate)} (found : s.findSubstitutes x = some fills) :
    ReservedFor k { x with state := .picking, slots := fillAll fills x.slots } fills (slotsReplaced k fills) s
      (s.fillSlots k x fills) := by
  rw [State.fillSlots_eq]
  refine reservedFor_of_distinct _ (StringRequest.substitutes_distinct found) (fun f member => ?_) _
  obtain ⟨y, inUse, _⟩ := State.mem_eligible.1 (StringRequest.mem_substitutes found f member)
  exact ⟨y, inUse⟩

/-- R131: a window found and reserved. -/
theorem State.reserveWindow_reservedFor {w : List Candidate} (found : q.search (s.eligible q) = some w) (x : StringEntry) :
    ReservedFor k { x with state := .picking, slots := w.map fun c => .reserved c.record c.values } (w.mapIdx fun i c => (i, c))
      [.stringReserved k x.request.length (w.map Candidate.record)] s (s.reserveWindow k x w) := by
  rw [State.reserveWindow_eq]
  refine reservedFor_of_distinct _ ?_ (fun f member => ?_) _
  · have records : (w.mapIdx fun i c => (i, c)).map Prod.snd = w := List.ext_getElem (by simp) (by simp)
    have distinct := State.search_distinct found
    rw [← records, List.pairwise_map] at distinct
    exact distinct
  · obtain ⟨i, inside, rfl⟩ := List.mem_mapIdx.1 member
    obtain ⟨y, inUse, _⟩ := State.mem_eligible.1 (StringRequest.mem_search found _ (List.getElem_mem inside))
    exact ⟨y, inUse⟩

theorem State.repairString_of_none (free : s.string k = none) : s.repairString k = s := by
  rw [State.repairString, free]

theorem State.retryString_of_none (free : s.string k = none) : s.retryString k = s := by
  rw [State.retryString, free]

section
variable (string : s.string k = some x)

include string

theorem State.repairString_of_found {fills : List (Nat × Candidate)} (found : s.findSubstitutes x = some fills) :
    s.repairString k = s.fillSlots k x fills := by
  rw [State.repairString, string]
  dsimp only
  rw [found]

theorem State.repairString_of_not_found (missing : s.findSubstitutes x = none) :
    s.repairString k = (s.setString k (some { x with state := .blocked })).raise (.stringBlocked k (vacantCount x.slots)) := by
  rw [State.repairString, string]
  dsimp only
  rw [missing]

theorem State.retryString_of_settled (settled : x.state = .picking ∨ x.state = .complete) : s.retryString k = s := by
  rw [State.retryString, string]
  dsimp only
  rcases settled with state | state <;> rw [state]

theorem State.retryString_of_blocked (blocked : x.state = .blocked) {fills : List (Nat × Candidate)}
    (found : s.findSubstitutes x = some fills) : s.retryString k = s.fillSlots k x fills := by
  rw [State.retryString, string]
  dsimp only
  rw [blocked, found]

theorem State.retryString_of_still_blocked (blocked : x.state = .blocked) (missing : s.findSubstitutes x = none) :
    s.retryString k = s := by
  rw [State.retryString, string]
  dsimp only
  rw [blocked, missing]

theorem State.retryString_of_waiting (waiting : x.state = .waiting) : s.retryString k = s.searchString k x := by
  rw [State.retryString, string]
  dsimp only
  rw [waiting]

end

theorem State.searchString_of_found {w : List Candidate} (found : x.request.search (s.eligible x.request) = some w) :
    s.searchString k x = s.reserveWindow k x w := by
  rw [State.searchString, found]

theorem State.searchString_of_not_found (missing : x.request.search (s.eligible x.request) = none) : s.searchString k x = s := by
  rw [State.searchString, missing]

end

/-- Settles O54: the substitution, its commitment, the repair and the retries. -/
theorem stringsAreRepairedAndRetried : Obligations.StringsAreRepairedAndRetried := by
  refine ⟨fun s x => x.request.substitutionIs_substitutes x.slots 0 _ _ (s.eligible_ascending x.request),
    fun s k x fills found => State.fillSlots_reservedFor found,
    fun s k => ⟨fun free => ⟨State.repairString_of_none free, State.retryString_of_none free⟩, fun x string =>
      ⟨fun fills found => State.repairString_of_found string found, fun missing => ?_, State.retryString_of_settled string,
        fun blocked => ⟨fun fills found => State.retryString_of_blocked string blocked found,
          State.retryString_of_still_blocked string blocked⟩,
        fun waiting => ⟨fun missing => ?_, fun w found => ?_⟩⟩⟩,
    fun s => rfl⟩
  · rw [State.repairString_of_not_found string missing, vacantCount, List.countP_eq_length_filter]
  · rw [State.retryString_of_waiting string waiting, State.searchString_of_not_found missing]
  · rw [State.retryString_of_waiting string waiting, State.searchString_of_found found]
    exact State.reserveWindow_reservedFor found x

end Sys2Proof.Machine
end

section
/-! The requests on strings (07_string_pairing.md; R127, R131-R133, R143-R145): builds, reads, cancels and closes; O52 and O55. -/

namespace Sys2Proof.Machine

variable {s : State} {k : StringNo} {q : StringRequest} {x : StringEntry}

/-! ## Builds (R127, R131, R132) -/

theorem State.freeString_eq_none : s.freeString = none ↔ ∀ k, s.string k ≠ none := by
  simp [State.freeString, List.find?_eq_none]

theorem State.freeString_eq_some : s.freeString = some k ↔ s.string k = none ∧ ∀ i, i < k → s.string i ≠ none := by
  rw [State.freeString, find_finRange_eq_some]
  simp [Option.isSome_iff_ne_none]

theorem handleStringBuild_of_full (full : s.freeString = none) (q : StringRequest) : handleStringBuild q s = (s, .plain .full) := by
  rw [handleStringBuild, full]
  rfl

theorem handleStringBuild_of_free (free : s.freeString = some k) (built : (s.buildString k q).string k = some x) :
    handleStringBuild q s = (s.buildString k q, .stringBuilt k x.state ((s.buildString k q).slotReports x.slots)) := by
  rw [handleStringBuild, free]
  dsimp only
  rw [built]

theorem State.buildString_of_not_found (missing : q.search (s.eligible q) = none) :
    s.buildString k q = s.setString k (some (q.entry s.seconds)) :=
  State.searchString_of_not_found (s := s.setString k (some (q.entry s.seconds))) (x := q.entry s.seconds) missing

theorem State.buildString_of_found {w : List Candidate} (found : q.search (s.eligible q) = some w) :
    s.buildString k q = (s.setString k (some (q.entry s.seconds))).reserveWindow k (q.entry s.seconds) w :=
  State.searchString_of_found (s := s.setString k (some (q.entry s.seconds))) (x := q.entry s.seconds) found

/-- Settles O52: the eligible records, and the entry's build by what the search finds. -/
theorem aBuiltStringReservesItsWindow : Obligations.ABuiltStringReservesItsWindow := by
  intro s tag body attends
  refine ⟨fun status fails => ?_, fun q fields => ⟨fun c => ?eligible, fun full => ?full, fun k free lowest =>
    ⟨fun missing => ?waiting, fun w found => ?picking⟩⟩⟩
  · exact exec_frame_of_unchanged (c := .stringBuild tag body) rfl attends (withFields_error fails _ _)
  case eligible =>
    simp only [State.mem_eligible, StringRequest.accepts_iff]
  case full =>
    exact exec_frame_of_unchanged (c := .stringBuild tag body) rfl attends ((withFields_ok fields handleStringBuild _).trans
      (handleStringBuild_of_full (s := s.hunt) (State.freeString_eq_none.2 full) q))
  all_goals
    have number : s.hunt.freeString = some k := State.freeString_eq_some.2 ⟨free, lowest⟩
  case waiting =>
    have built := State.buildString_of_not_found (s := s.hunt) (k := k) missing
    have handled := handleStringBuild_of_free number (by rw [built]; exact State.setString_string_self ..)
    have answered := exec_frame_of_handled (c := .stringBuild tag body) rfl attends
      ((withFields_ok fields handleStringBuild _).trans handled)
    rw [answered, built]
    rfl
  case picking =>
    have built := State.buildString_of_found (s := s.hunt) (k := k) found
    obtain ⟨string, taken, kept, others, events, frame⟩ :=
      State.reserveWindow_reservedFor (s := s.hunt.setString k (some (q.entry s.hunt.seconds))) (k := k) found
        (q.entry s.hunt.seconds)
    rw [← built] at string taken kept others events frame
    have positions := congrArg State.positions frame
    have handled := handleStringBuild_of_free number string
    refine ⟨_, exec_frame_of_handled (c := .stringBuild tag body) rfl attends
      ((withFields_ok fields handleStringBuild _).trans handled), string, fun i c here => ?_, fun r unlike => ?_, fun j other => ?_,
      positions, events.trans ?_⟩
    · exact taken i c (List.mem_mapIdx.2 (by
        obtain ⟨inside, rfl⟩ := List.getElem?_eq_some_iff.1 here
        exact ⟨i, inside, rfl⟩))
    · refine kept r fun i c member => ?_
      obtain ⟨n, inside, same⟩ := List.mem_mapIdx.1 member
      cases same
      exact unlike _ (List.getElem_mem inside)
    · refine (others j other).trans ?_
      rw [State.setString_string, if_neg (Ne.symm other)]
      rfl
    · rw [State.raiseAll, State.raiseAll, State.raise_eq]
      rfl

/-! ## Releases (R143) -/

theorem State.releaseRecord_record_self {r : RecordNo} {x : Record} (inUse : s.record r = some x) :
    (s.releaseRecord r).record r = some { x with state := x.state.released } := by
  rw [State.releaseRecord, State.updateRecord_of_some inUse, State.setRecord_record_self]

theorem State.releaseRecord_record_of_ne {r i : RecordNo} (other : r ≠ i) : (s.releaseRecord r).record i = s.record i := by
  unfold State.releaseRecord State.updateRecord
  split
  · rw [State.setRecord_record, if_neg other]
  · rfl

theorem State.releaseRecord_frame (s : State) (r : RecordNo) : { s.releaseRecord r with records := s.records } = s := by
  unfold State.releaseRecord State.updateRecord
  split <;> rfl

/-- R143: what a release of one slot does. -/
def State.releaseSlot (s : State) : Slot → State
  | .reserved r _ => s.releaseRecord r
  | _ => s

theorem State.releaseSlots_cons (s : State) (slot : Slot) (slots : List Slot) :
    s.releaseSlots (slot :: slots) = (s.releaseSlot slot).releaseSlots slots := by
  cases slot <;> rfl

theorem State.releaseSlots_frame (slots : List Slot) (s : State) : { s.releaseSlots slots with records := s.records } = s := by
  induction slots generalizing s with
  | nil => rfl
  | cons slot slots ih =>
    rw [State.releaseSlots_cons]
    have later := congrArg (fun t : State => { t with records := s.records }) (ih (s.releaseSlot slot))
    refine Eq.trans later ?_
    cases slot with
    | reserved r v => exact s.releaseRecord_frame r
    | picked => rfl
    | vacant => rfl

/-- A record without a reservation is left as it is. -/
theorem State.releaseSlots_record_of_released {r : RecordNo} {x : Record} (slots : List Slot) (inUse : s.record r = some x)
    (free : x.state.released = x.state) : (s.releaseSlots slots).record r = some x := by
  induction slots generalizing s with
  | nil => exact inUse
  | cons slot slots ih =>
    rw [State.releaseSlots_cons]
    refine ih ?_
    cases slot with
    | picked => exact inUse
    | vacant => exact inUse
    | reserved i v =>
      by_cases same : i = r
      · subst same
        refine (State.releaseRecord_record_self inUse).trans ?_
        rw [free]
      · exact (State.releaseRecord_record_of_ne same).trans inUse

theorem State.releaseSlots_record_of_not_mem {r : RecordNo} {slots : List Slot} (other : ∀ v, Slot.reserved r v ∉ slots) :
    (s.releaseSlots slots).record r = s.record r := by
  induction slots generalizing s with
  | nil => rfl
  | cons slot slots ih =>
    rw [State.releaseSlots_cons, ih fun v member => other v (List.mem_cons_of_mem _ member)]
    cases slot with
    | picked => rfl
    | vacant => rfl
    | reserved i v => exact State.releaseRecord_record_of_ne fun same => other v (by rw [same]; exact List.mem_cons_self)

theorem State.releaseSlots_record_of_mem {r : RecordNo} {v : SlotValues} {slots : List Slot} {x : Record}
    (member : Slot.reserved r v ∈ slots) (inUse : s.record r = some x) :
    (s.releaseSlots slots).record r = some { x with state := x.state.released } := by
  have settled : x.state.released.released = x.state.released := by cases x.state <;> rfl
  induction slots generalizing s with
  | nil => exact absurd member List.not_mem_nil
  | cons slot slots ih =>
    rw [State.releaseSlots_cons]
    rcases List.mem_cons.1 member with rfl | later
    · exact State.releaseSlots_record_of_released slots (State.releaseRecord_record_self inUse) settled
    · cases slot with
      | picked => exact ih later inUse
      | vacant => exact ih later inUse
      | reserved i u =>
        by_cases same : i = r
        · subst same
          exact State.releaseSlots_record_of_released slots (State.releaseRecord_record_self inUse) settled
        · exact ih later ((State.releaseRecord_record_of_ne same).trans inUse)

/-- R133: a round over a table of FREE entries changes nothing. -/
theorem State.retryRound_of_free (free : ∀ j, s.string j = none) : s.retryRound = s :=
  List.foldlRecOn (motive := fun t => t = s) _ _ rfl fun t same j _ => by
    rw [same]
    exact State.retryString_of_none (free j)

/-! ## Reads, cancels and closes (R143-R145) -/

theorem handleStringCancel_of_some (string : s.string k = some x) :
    handleStringCancel k s = (s.cancelString k x, .cancelled x.state (s.pickedReports x.slots)) := by
  rw [handleStringCancel, string]

theorem handleStringClose_of_complete (string : s.string k = some x) (complete : x.state = .complete) :
    handleStringClose k s = (s.setString k none, .closed x.request x.created (s.slotReports x.slots)) := by
  rw [handleStringClose, string]
  exact if_pos complete

/-- Settles O55: the release of a slot list, and the three requests by the entry's state. -/
theorem aStringIsReadCancelledOrClosed : Obligations.AStringIsReadCancelledOrClosed := by
  refine ⟨fun s slots => ⟨fun r v k i x member inUse reserved => ?release, fun r other => State.releaseSlots_record_of_not_mem other,
    State.releaseSlots_frame slots s⟩, fun s tag k attends => ?requests⟩
  case release =>
    rw [State.releaseSlots_record_of_mem member inUse, reserved]
    rfl
  case requests =>
    have number := numberField_of_fin k (by decide)
    have read := withFields_ok number handleStringRead s.hunt
    have cancel := withFields_ok number handleStringCancel s.hunt
    have close := withFields_ok number handleStringClose s.hunt
    refine ⟨fun free => ⟨?readFree, ?cancelFree, ?closeFree⟩, fun x string => ⟨?read, ?cancel, fun waiting empty alone => ?cancelWaiting,
      fun complete => ?close, fun other => ?closeOther⟩⟩
    case readFree =>
      refine exec_frame_of_unchanged (c := .stringRead tag [byte k]) rfl attends (read.trans ?_)
      rw [handleStringRead, show s.hunt.string k = none from free]
      rfl
    case cancelFree =>
      refine exec_frame_of_unchanged (c := .stringCancel tag [byte k]) rfl attends (cancel.trans ?_)
      rw [handleStringCancel, show s.hunt.string k = none from free]
      rfl
    case closeFree =>
      refine exec_frame_of_unchanged (c := .stringClose tag [byte k]) rfl attends (close.trans ?_)
      rw [handleStringClose, show s.hunt.string k = none from free]
      rfl
    case read =>
      refine exec_frame_of_unchanged (c := .stringRead tag [byte k]) rfl attends (read.trans ?_)
      rw [handleStringRead, show s.hunt.string k = some x from string]
      rfl
    case cancel =>
      exact exec_frame_of_handled (c := .stringCancel tag [byte k]) rfl attends
        (cancel.trans (handleStringCancel_of_some (s := s.hunt) string))
    case cancelWaiting =>
      have answered := exec_frame_of_handled (c := .stringCancel tag [byte k]) rfl attends
        (cancel.trans (handleStringCancel_of_some (s := s.hunt) string))
      have free (j : StringNo) : (s.hunt.setString k none).string j = none := by
        rw [State.setString_string]
        split
        · rfl
        · next other => exact alone j (Ne.symm other)
      rw [answered, State.cancelString, empty, State.releaseSlots, State.retryRound_of_free free, waiting]
      rfl
    case close =>
      have answered := exec_frame_of_handled (c := .stringClose tag [byte k]) rfl attends
        (close.trans (handleStringClose_of_complete (s := s.hunt) string complete))
      exact answered
    case closeOther =>
      refine exec_frame_of_unchanged (c := .stringClose tag [byte k]) rfl attends (close.trans ?_)
      rw [handleStringClose, show s.hunt.string k = some x from string]
      exact if_neg other

end Sys2Proof.Machine
end

section
/-! The lamps (08_guidance_lamps.md; R16, R103, R137, R152-R157): the roles, what a lamp shows, and the lamp requests; O56. -/

namespace Sys2Proof.Machine

variable {s : State}

/-! ## Roles (R16, R103, R137, R155) -/

section
variable {l : LampNo}

theorem State.lampRole_of_bay {b : BayNo} (place : l.val = 240 + b.val) : s.lampRole l = (s.bay b).lampRole := by
  have same : (⟨l - 240, by omega⟩ : BayNo) = b := Fin.ext (by dsimp only; omega)
  rw [State.lampRole, dif_neg (by omega), same]

theorem State.lampRole_of_position {p : PositionNo} (place : l.val = p.val) : s.lampRole l = s.positionRole p := by
  have same : (⟨l.val, by omega⟩ : PositionNo) = p := Fin.ext place
  rw [State.lampRole, dif_pos (by omega), same]

end

/-- A slot that is RESERVED. -/
def Slot.isReserved : Slot → Bool
  | .reserved .. => true
  | _ => false

theorem slotReserved_iff {slots : List Slot} {i : Nat} : SlotReserved slots i ↔ ∃ inside : i < slots.length, slots[i].isReserved = true := by
  unfold SlotReserved
  constructor
  · rintro ⟨r, v, here⟩
    obtain ⟨inside, same⟩ := List.getElem?_eq_some_iff.1 here
    exact ⟨inside, by rw [same]; rfl⟩
  · rintro ⟨inside, reserved⟩
    rw [List.getElem?_eq_getElem inside]
    revert reserved
    cases slots[i] with
    | reserved r v => exact fun _ => ⟨r, v, rfl⟩
    | picked => exact fun impossible => absurd impossible Bool.false_ne_true
    | vacant => exact fun impossible => absurd impossible Bool.false_ne_true

theorem lowestReserved_eq (slots : List Slot) (i : Nat) : lowestReserved i slots = (slots.findIdx? Slot.isReserved).map (i + ·) := by
  induction slots generalizing i with
  | nil => rfl
  | cons slot slots ih =>
    have later : lowestReserved (i + 1) slots = ((slots.findIdx? Slot.isReserved).map (· + 1)).map (i + ·) := by
      rw [ih, Option.map_map]
      exact congrArg (Option.map · _) (funext fun n => by simp only [Function.comp]; omega)
    rw [List.findIdx?_cons]
    cases slot with
    | reserved => rfl
    | picked => exact later
    | vacant => exact later

/-- R137: the slot that shows NEXT_PICK is the lowest one RESERVED. -/
theorem StringEntry.nextPick_eq_some {e : StringEntry} {i : Nat} :
    e.nextPick = some i ↔ SlotReserved e.slots i ∧ ∀ j, j < i → ¬ SlotReserved e.slots j := by
  rw [StringEntry.nextPick, lowestReserved_eq]
  simp only [Nat.zero_add, Option.map_id']
  rw [List.findIdx?_eq_some_iff_getElem, slotReserved_iff]
  constructor
  · rintro ⟨inside, reserved, lower⟩
    exact ⟨⟨inside, reserved⟩, fun j below found => lower j below (slotReserved_iff.1 found).2⟩
  · rintro ⟨⟨inside, reserved⟩, lower⟩
    exact ⟨inside, reserved, fun j below found => lower j below (slotReserved_iff.2 ⟨Nat.lt_trans below inside, found⟩)⟩

section
variable {p : PositionNo}

theorem State.positionRole_of_held {r : RecordNo} {x : Record} (held : (s.position p).state = .held r) (inUse : s.record r = some x) :
    s.positionRole p = s.heldRole x := by
  rw [State.positionRole, held]
  dsimp only
  rw [inUse, Option.bind_some]

theorem State.heldRole_of_reserved {x : Record} {k : StringNo} {i : Nat} {e : StringEntry} (reserved : x.state = .reserved k i)
    (string : s.string k = some e) : s.heldRole x = if e.nextPick = some i then some .nextPick else some .reserved := by
  rw [State.heldRole, reserved]
  dsimp only
  rw [string, Option.bind_some]
  cases e.nextPick <;> simp

end

theorem lampsHaveTheirRoles (s : State) : LampsHaveTheirRoles s := by
  refine ⟨fun b l place => (State.lampRole_of_bay place).trans ?bay, fun p l place => ⟨State.lampRole_of_position place,
    fun free => ?free, fun unknown => ?unknown, fun r => ⟨fun assigned => ?assigned, fun vacated => ?vacated, fun x held inUse =>
      ⟨fun available => ?available, fun rejected => ?rejected, fun k i e reserved string => ?reserved⟩⟩⟩⟩
  case bay =>
    unfold Bay.lampRole
    cases (s.bay b).state <;> cases (s.bay b).resultRole <;> rfl
  case free => rw [State.positionRole, free]
  case unknown => rw [State.positionRole, unknown]
  case assigned => rw [State.positionRole, assigned]
  case vacated => rw [State.positionRole, vacated]
  case available => rw [State.positionRole_of_held held inUse, State.heldRole, available]
  case rejected => rw [State.positionRole_of_held held inUse, State.heldRole, rejected]
  case reserved =>
    rw [State.positionRole_of_held held inUse, State.heldRole_of_reserved reserved string]
    refine ⟨fun here lowest => if_pos (StringEntry.nextPick_eq_some.2 ⟨here, lowest⟩), fun _ ⟨j, below, lower⟩ => if_neg fun next => ?_⟩
    exact (StringEntry.nextPick_eq_some.1 next).2 j below lower

/-! ## What a lamp shows (R154, R155) -/

section
variable {l : LampNo}

theorem State.lampShows_of_override {n : PatternNo} (lit : s.lamps.dark = false) (override : s.lamps.overrides[l] = some n) :
    s.lampShows l = some n := by
  rw [State.lampShows, lit, override]
  rfl

theorem State.lampShows_of_role (lit : s.lamps.dark = false) (free : s.lamps.overrides[l] = none) {role : LampRole}
    (named : s.lampRole l = some role) : s.lampShows l = some s.lamps.roleMap[role.place] := by
  rw [State.lampShows, lit, free, named]
  rfl

end

theorem lampsShowByPrecedence (s : State) : LampsShowByPrecedence s := by
  refine fun l => ⟨State.lampShows_of_watch, fun n lit override => State.lampShows_of_override lit override,
    fun lit free => ⟨State.lampShows_of_no_role free, fun i named => ?_⟩⟩
  rw [State.lampShows_of_role lit free named]
  fin_cases i <;> rfl

/-! ## The fields of the lamp requests (R153, R154, R156, R157) -/

theorem toFin_u8_byte {n : Nat} (k : Fin n) (small : n ≤ 256) {body rest : List Byte} {i : Nat} (at_ : body.drop i = byte k :: rest) :
    toFin n (u8 body i) = some k :=
  toFin_of_eq (u8_of_drop at_ (k.isLt.trans_le small))

theorem lampPatternFields_read (n : PatternNo) : lampPatternFields [byte n, 0] = .ok (n, none) := by
  have number : toFin 8 (u8 [byte n, 0] 0) = some n := toFin_u8_byte n (by decide) rfl
  refine sized_some rfl ?_
  rw [number]
  rfl

theorem lampOverrideFields_read (l : LampNo) : lampOverrideFields [byte l, 0] = .ok (l, none) := by
  have lamp : toFin 256 (u8 [byte l, 0] 0) = some l := toFin_u8_byte l (by decide) rfl
  refine sized_some rfl ?_
  rw [lamp]
  rfl

theorem lampOverrideFields_bytes (l : LampNo) (n : PatternNo) : lampOverrideFields [byte l, 1, byte n] = .ok (l, some n) := by
  have lamp : toFin 256 (u8 [byte l, 1, byte n] 0) = some l := toFin_u8_byte l (by decide) rfl
  have number : toFin 8 (u8 [byte l, 1, byte n] 2) = some n := toFin_u8_byte n (by decide) rfl
  refine sized_some rfl ?_
  rw [lamp, number]
  rfl

theorem lampReleaseFields_bytes (l : LampNo) : lampReleaseFields [byte l, 0] = .ok (some l) := by
  have low : u8 [byte l, 0] 0 = l.val := u8_of_drop (rest := [0]) rfl l.isLt
  have number : u16 [byte l, 0] 0 = l.val := by
    rw [u16, low]
    rfl
  refine sized_some rfl ?_
  rw [number, if_neg (Nat.ne_of_lt l.isLt), toFin_val]
  rfl

theorem lampReleaseFields_all : lampReleaseFields [0, 1] = .ok none := rfl

/-- R154: a role map as LAMP_ROLES writes it. -/
def roleBytes (map : Vector PatternNo 10) : List Byte := 1 :: map.toList.map fun n : PatternNo => byte n.val

theorem roleBytes_eq (map : Vector PatternNo 10) : (1 :: map.toList.map fun x => byte x : List Byte) = roleBytes map := by
  simp [roleBytes, ← List.map_eq_flatMap]

theorem toFin_u8_roleBytes (map : Vector PatternNo 10) (i : Fin 10) : toFin 8 (u8 (roleBytes map) (i + 1)) = some map[i] := by
  have inside : i.val < (map.toList.map fun n : PatternNo => byte n.val).length := by simp
  refine toFin_u8_byte map[i] (by decide) (rest := (map.toList.map fun n : PatternNo => byte n.val).drop (i + 1)) ?_
  rw [roleBytes, List.drop_succ_cons, List.drop_eq_getElem_cons inside]
  simp

theorem lampRolesFields_roleBytes (map : Vector PatternNo 10) : lampRolesFields (roleBytes map) = .ok (some map) := by
  have number := toFin_u8_roleBytes map
  have mark : markAt (roleBytes map) 0 = some true := rfl
  have size : (roleBytes map).length = 1 + partSize (roleBytes map) 0 10 := by simp [roleBytes, partSize, u8]
  have places : map = #v[map[0], map[1], map[2], map[3], map[4], map[5], map[6], map[7], map[8], map[9]] := by
    ext i inside
    interval_cases i <;> rfl
  refine sized_some size ?_
  conv_rhs => rw [places]
  simp [Fin.forall_fin_succ] at number
  simp [mark, number]

/-! ## The requests -/

/-- Settles O56: the roles, what a lamp shows, and each request by its handler. -/
theorem lampsShowTheirRolesAndAreWritten : Obligations.LampsShowTheirRolesAndAreWritten := by
  refine ⟨fun s => ⟨lampsHaveTheirRoles s, lampsShowByPrecedence s⟩, fun s tag n p map l attends => ⟨?patternRead, fun valid => ?pattern,
    ?rolesRead, ?roles, ?overrideRead, ?override, ?release, ?releaseAll⟩⟩
  case patternRead =>
    exact exec_frame_of_unchanged (c := .lampPatternRead tag [byte n, 0]) rfl attends
      (withFields_ok (lampPatternFields_read n) handleLampPattern _)
  case pattern =>
    exact exec_frame_of_handled (c := .lampPattern tag (byte n :: 1 :: p.bytes)) rfl attends
      (withFields_ok (lampPatternFields_bytes n p valid) handleLampPattern _)
  case rolesRead => exact exec_frame_of_unchanged (c := .lampRolesRead tag [0]) rfl attends rfl
  case roles =>
    rw [roleBytes_eq]
    exact exec_frame_of_handled (c := .lampRoles tag (roleBytes map)) rfl attends
      (withFields_ok (lampRolesFields_roleBytes map) handleLampRoles _)
  case overrideRead =>
    exact exec_frame_of_unchanged (c := .lampOverrideRead tag [byte l, 0]) rfl attends
      (withFields_ok (lampOverrideFields_read l) handleLampOverride _)
  case override =>
    exact exec_frame_of_handled (c := .lampOverride tag [byte l, 1, byte n]) rfl attends
      (withFields_ok (lampOverrideFields_bytes l n) handleLampOverride _)
  case release =>
    have count : (if s.lamps.overrides[l] = none then 0 else 1) = if s.lamps.overrides[l].isSome then 1 else 0 := by
      cases s.lamps.overrides[l] <;> rfl
    rw [count]
    exact exec_frame_of_handled (c := .lampRelease tag [byte l, 0]) rfl attends
      (withFields_ok (lampReleaseFields_bytes l) handleLampRelease _)
  case releaseAll =>
    exact exec_frame_of_handled (c := .lampRelease tag [0, 1]) rfl attends
      (withFields_ok lampReleaseFields_all handleLampRelease _)

end Sys2Proof.Machine
end
